-- ==== Sys2Proof/Word.lean ====
section
/-! DEFINITION. The word types of the PacketCodec (00_scope.md R9; 30_encoding.md R86, R90). -/

namespace Sys2Proof

/-- A byte: 8 bits, unsigned (R9). -/
abbrev Byte := BitVec 8

/-- A 16-bit quantity: the registers, the operand `A`, a result's value. -/
abbrev Half := BitVec 16

/-- A command word `CW` of the command port (R86). -/
abbrev CommandWord := BitVec 32

/-- A receive symbol `RS` of the link (R90). -/
abbrev Symbol := BitVec 9

end Sys2Proof
end

