-- ==== Sys2Proof/Config.lean ====
section
/-! DEFINITION. What is fixed when a PacketCodec is built (00_scope.md R7), and the free values of its buffers. -/

namespace Sys2Proof

/-- The three build-time parameters (R7). A machine carries them in `State.cfg`; no event changes them, and a
statement about every state holds for every choice of them. -/
structure Config where
  /-- `HDR`: the header constant. -/
  hdr  : BitVec 16
  /-- `ADDR`: the address constant. -/
  addr : BitVec 32
  /-- `MAXP`: the largest wire payload in bytes and the depth of both payload buffers. -/
  maxp : Nat
  deriving DecidableEq, Repr

namespace Config

/-- R7's reference instantiation, the one the spec's test vectors use.
PRESUMED, unsafe: the spec marks these three values "from general knowledge, not in source" (log entry 1). Only
`Machine.State.reset` holds it. -/
def reference : Config := { hdr := 0xEF01, addr := 0xFFFFFFFF, maxp := 256 }

/-- DESIGN CHOICE, safe (log entry 2): the unspecified byte that cell `i` of `TXBUF` holds after the `k`-th power-on
and until it is first written (U1; R44, R200). It has no body: nothing can be proved of its value. -/
opaque powerOnTx : Nat → Nat → Byte

/-- DESIGN CHOICE, safe (log entry 2): the same for `RXBUF` (U1; R45, R200). -/
opaque powerOnRx : Nat → Nat → Byte

end Config

end Sys2Proof
end

