-- ==== Sys2Proof/Syntax.lean ====
section
/-! DEFINITION. The instructions of PC-OPS version 1: one constructor per row of spec/opcode_table.json. -/

namespace Sys2Proof

/-- The twelve host operations (30_encoding.md R88) and the two receive symbols (R90). A constructor carries the
operand fields its row uses; a field that the row ignores is no part of the instruction (R86, R92(c), R92(e)). -/
inductive Instr where
  /-- `NOP` (R160). -/
  | nop
  /-- `RDREG r` (R161). -/
  | rdreg (r : Byte)
  /-- `WRREG r, v` (R162). -/
  | wrreg (r : Byte) (v : Half)
  /-- `TXWR i, b` (R111). -/
  | txwr (i : Half) (b : Byte)
  /-- `RXRD i` (R152). -/
  | rxrd (i : Half)
  /-- `RXRDW i` (R153). -/
  | rxrdw (i : Half)
  /-- `ENCGO` (R113). -/
  | encgo
  /-- `DECGO` (R131). -/
  | decgo
  /-- `CSCLR` (R102). -/
  | csclr
  /-- `CSADD b` (R103). -/
  | csadd (b : Byte)
  /-- `CSCMP v` (R104). -/
  | cscmp (v : Half)
  /-- `CLRERR` (R163). -/
  | clrerr
  /-- `RXB b`: the link delivers a byte (R132). -/
  | rxb (b : Byte)
  /-- `RXE`: the link reports the end of the received data (R146). -/
  | rxe
  deriving DecidableEq, Repr

end Sys2Proof
end

