-- ==== Sys2Proof/WellFormed.lean ====
section
/-! DEFINITION. Well-formed instructions and parameters. -/

namespace Sys2Proof

/-- Every operand field takes every value of its width (30_encoding.md R86: "used as the unsigned numbers they
spell"), and the operands' types say the widths, so an instruction needs no further check: a register number or an
index out of range is an ordinary operand, which the machine refuses (R161, R162, R78). -/
def Instr.wf : Instr → Bool
  | .nop => true
  | .rdreg _ => true
  | .wrreg _ _ => true
  | .txwr _ _ => true
  | .rxrd _ => true
  | .rxrdw _ => true
  | .encgo => true
  | .decgo => true
  | .csclr => true
  | .csadd _ => true
  | .cscmp _ => true
  | .clrerr => true
  | .rxb _ => true
  | .rxe => true

/-- The constraint on the parameters: `1 <= MAXP <= 65524` (00_scope.md R7). -/
def Config.wf (c : Config) : Bool := decide (1 ≤ c.maxp) && decide (c.maxp ≤ 65524)

end Sys2Proof
end

