-- ==== Sys2Proof/Decode.lean ====
section
/-! DEFINITION. The encodings of spec/30_encoding.md: the decoder, total on every word and symbol and rejecting by
name, and the encoder. -/

namespace Sys2Proof

/-- Why a word is no instruction. -/
inductive DecodeError where
  /-- A command word whose code is in `0x0C..0xFF` (R89). The machine refuses it with `ILLOP` (R164). -/
  | reservedOp (op : Byte)
  /-- A number of the opcode table that is wider than its row's format, so no word of either port. -/
  | tooWide
  deriving DecidableEq, Repr

/-- A word as one of the two ports presents it. -/
inductive PortWord where
  /-- A command word on the command port (R86). -/
  | command (cw : CommandWord)
  /-- A receive symbol from the link (R90). -/
  | symbol (rs : Symbol)
  deriving DecidableEq, Repr

/-- `OP = CW[31:24]` (R86). -/
def CommandWord.op (cw : CommandWord) : Byte := BitVec.extractLsb' 24 8 cw

/-- `A = CW[23:8]` (R86). -/
def CommandWord.a (cw : CommandWord) : Half := BitVec.extractLsb' 8 16 cw

/-- `B = CW[7:0]` (R86). -/
def CommandWord.b (cw : CommandWord) : Byte := BitVec.extractLsb' 0 8 cw

/-- `E = RS[8]` (R90). -/
def Symbol.e (rs : Symbol) : Bool := rs.getLsbD 8

/-- `D = RS[7:0]` (R90). -/
def Symbol.d (rs : Symbol) : Byte := BitVec.extractLsb' 0 8 rs

/-- The operation map (R88), on the code and the two operand fields; R89 for the rest of the codes. -/
def decodeFields (op : Byte) (a : Half) (b : Byte) : Except DecodeError Instr :=
  match op.toNat with
  | 0x00 => .ok .nop
  | 0x01 => .ok (.rdreg b)
  | 0x02 => .ok (.wrreg b a)
  | 0x03 => .ok (.txwr a b)
  | 0x04 => .ok (.rxrd a)
  | 0x05 => .ok (.rxrdw a)
  | 0x06 => .ok .encgo
  | 0x07 => .ok .decgo
  | 0x08 => .ok .csclr
  | 0x09 => .ok (.csadd b)
  | 0x0A => .ok (.cscmp a)
  | 0x0B => .ok .clrerr
  | _ => .error (.reservedOp op)

/-- Decoding of command words (R88, R89). -/
def decodeCommand (cw : CommandWord) : Except DecodeError Instr :=
  decodeFields (CommandWord.op cw) (CommandWord.a cw) (CommandWord.b cw)

/-- Decoding of receive symbols, total (R90). -/
def decodeSymbol (rs : Symbol) : Instr :=
  if Symbol.e rs then .rxe else .rxb (Symbol.d rs)

/-- Decoding at either port. -/
def decode : PortWord → Except DecodeError Instr
  | .command cw => decodeCommand cw
  | .symbol rs => .ok (decodeSymbol rs)

/-- The port word of a number of spec/opcode_table.json: a row of at most 16 bits is a 9-bit receive symbol (format
RS), a wider one a 32-bit command word (format CW); a number that does not fit its format is no port word. -/
def tablePortWord (nbits w : Nat) : Except DecodeError PortWord :=
  if nbits ≤ 16 then
    if w < 2 ^ 9 then .ok (.symbol (BitVec.ofNat 9 w)) else .error .tooWide
  else
    if w < 2 ^ 32 then .ok (.command (BitVec.ofNat 32 w)) else .error .tooWide

/-- What the decoder reads from the number `w` of a table row of `nbits` bits; `none` where it rejects. -/
def decodeTableWord (nbits w : Nat) : Option Instr :=
  match tablePortWord nbits w with
  | .error _ => none
  | .ok pw =>
    match decode pw with
    | .ok i => some i
    | .error _ => none

/-- The command word `OP ‖ A ‖ B` (R86). -/
def commandWord (op : Byte) (a : Half) (b : Byte) : CommandWord := (op ++ a ++ b : BitVec (8 + 16 + 8))

/-- The receive symbol `E ‖ D` (R90). -/
def symbolWord (e : Bool) (d : Byte) : Symbol := (BitVec.ofBool e ++ d : BitVec (1 + 8))

/-- The word of an instruction; "Unused operand fields assemble as zero", and `RXE` is "symbol `0x100`" (R93). -/
def encode : Instr → PortWord
  | .nop => .command (commandWord 0x00 0 0)
  | .rdreg r => .command (commandWord 0x01 0 r)
  | .wrreg r v => .command (commandWord 0x02 v r)
  | .txwr i b => .command (commandWord 0x03 i b)
  | .rxrd i => .command (commandWord 0x04 i 0)
  | .rxrdw i => .command (commandWord 0x05 i 0)
  | .encgo => .command (commandWord 0x06 0 0)
  | .decgo => .command (commandWord 0x07 0 0)
  | .csclr => .command (commandWord 0x08 0 0)
  | .csadd b => .command (commandWord 0x09 0 b)
  | .cscmp v => .command (commandWord 0x0A v 0)
  | .clrerr => .command (commandWord 0x0B 0 0)
  | .rxb b => .symbol (symbolWord false b)
  | .rxe => .symbol (symbolWord true 0)

end Sys2Proof
end

