-- ==== Sys2Proof/Machine/State.lean ====
section
/-! DEFINITION. The state of the PacketCodec (10_state.md), the events that change it (00_scope.md R11), and the state
after reset. -/

namespace Sys2Proof.Machine

/-- `RXST`, the decoder state (R28). -/
inductive RxState where
  /-- 0: not armed; received bytes are discarded. -/
  | idle
  /-- 1: a frame is being received. -/
  | run
  /-- 2: `decode` succeeded. -/
  | done
  /-- 3: `decode` failed (`MalformedFrame`). -/
  | err
  deriving DecidableEq, Repr

/-- `RXERR`, the cause of decoder state `ERR` (R33, R172). The codes 5..7 never occur, so they have no
constructor (U9, log entry 9). -/
inductive RxError where
  /-- 0: no failure. -/
  | none
  /-- 1: header mismatch (R173). -/
  | hdr
  /-- 2: address mismatch (R173). -/
  | addr
  /-- 3: illegal length field (R174). -/
  | len
  /-- 4: the reception ended before the last payload byte (R175). -/
  | short
  deriving DecidableEq, Repr

/-- `OPERRC`, the cause of the first refusal since `CLRERR` or `RESET` (R34, R176). The codes 6..15 never occur, so
they have no constructor (U9, log entry 9). -/
inductive OpError where
  /-- 0: no refusal. -/
  | none
  /-- 1: reserved operation code (R177). -/
  | illop
  /-- 2: register number not readable, or not writable (R178). -/
  | badreg
  /-- 3: a transmit-side write or start while a frame is being emitted (R179). -/
  | txbusy
  /-- 4: a buffer index out of range (R180). -/
  | index
  /-- 5: `ENCGO` with an illegal payload count (R181). -/
  | txrange
  deriving DecidableEq, Repr

/-- `result(ok, val)`, what a host operation returns (R87). -/
structure HostResult where
  ok  : Bool
  val : Half
  deriving DecidableEq, Repr

/-- A payload buffer: the cells written since the last power-on, as (index, byte) pairs in canonical form
(`Memory.wf`). What an unlisted cell reads as is said by `txCell` and `rxCell` of Machine/Ops.lean. -/
abbrev Memory := List Host.Cell

/-- The canonical form: indices strictly rising. An unlisted cell holds an unspecified byte, which no listed byte
can be compared with, so every written cell is listed (log entry 2). -/
abbrev Memory.wf (m : Memory) : Prop := m.Pairwise (fun x y => x.1 < y.1)

/-- What the outside does next: the four kinds of event of R11 (agents of R12). -/
inductive Event where
  /-- The host presents a command word (agent `HOST`). -/
  | host (cw : CommandWord)
  /-- The encoder's turn (agent `ENC`): an `EMIT` if one is enabled (R114; log entry 4). -/
  | enc
  /-- The link delivers a symbol (agent `LINK`). -/
  | rx (rs : Symbol)
  /-- `RESET`; with `powerOn`, a power-on, "a `RESET` at which, in addition, every buffer cell takes an unspecified
  value" (R200). -/
  | reset (powerOn : Bool)
  deriving DecidableEq, Repr

/-- The state: every register, flag and buffer of R20, the record `TXOUT` (R47), the build-time parameters (R7), and
the model's own three fields (`results`, `powerOns`, `pending`). -/
structure State where
  /-- `HDR`, `ADDR`, `MAXP` (R7); written by nothing (log entry 1). -/
  cfg      : Config
  /-- `TXTYPE` (R35). -/
  txtype   : Byte
  /-- `TXN` (R36). -/
  txn      : Half
  /-- `TXPOS` (R24). -/
  txpos    : Half
  /-- `TXCS` (R37). -/
  txcs     : Half
  /-- `TXBUSY` (R27). -/
  txbusy   : Bool
  /-- `TXBUF` (R44). -/
  txbuf    : Memory
  /-- `TXOUT` (R47), oldest byte first. -/
  txout    : List Byte
  /-- `RXST` (R28). -/
  rxst     : RxState
  /-- `RXTYPE` (R38). -/
  rxtype   : Byte
  /-- `RXLEN` (R39). -/
  rxlen    : Half
  /-- `RXN` (R40). -/
  rxn      : Half
  /-- `RXPOS` (R25). -/
  rxpos    : Half
  /-- `RXCS` (R41). -/
  rxcs     : Half
  /-- `RXCK` (R42). -/
  rxck     : Half
  /-- `CKPRES` (R29). -/
  ckpres   : Bool
  /-- `CSOK` (R30). -/
  csok     : Bool
  /-- `TRAIL` (R31). -/
  trail    : Bool
  /-- `RXERR` (R33). -/
  rxerr    : RxError
  /-- `RXBUF` (R45). -/
  rxbuf    : Memory
  /-- `CSACC` (R43). -/
  csacc    : Half
  /-- `OPERR` (R32). -/
  operr    : Bool
  /-- `OPERRC` (R34). -/
  operrc   : OpError
  /-- The model's own: the record of what the host operations returned (R87), oldest first (log entry 6). -/
  results  : List HostResult
  /-- The model's own: how many power-ons came after the first; the argument of the buffers' free values
  (log entry 2). -/
  powerOns : Nat
  /-- The model's own: the events the outside still causes, in their order (R68; log entry 3). -/
  pending  : List Event
  deriving DecidableEq, Repr

/-- Why the machine stops. DEDUCED, safe (log entry 7): all four stand only where no rule of the spec applies, in
states that break the invariants of R49 and that no run reaches. -/
inductive Fault where
  /-- Raised by `EMIT` at `TXPOS > 10 + TXN`, where none of R115 to R120 applies. Safe. -/
  | emitOutsideFrame
  /-- Raised by `EMIT` of a payload byte whose cell `TXPOS - 9` is not below `MAXP`: no such cell exists (R44). Safe. -/
  | txCellAbsent
  /-- Raised by `RXB` in `RUN` at `RXPOS > 10 + RXN`, where none of R134 to R141 applies. Safe. -/
  | rxOutsideFrame
  /-- Raised by `RXB` of a payload byte whose cell `RXPOS - 9` is not below `MAXP`: no such cell exists (R45). Safe. -/
  | rxCellAbsent
  deriving DecidableEq, Repr

/-- Why an instruction has no meaning. -/
inductive Refusal where
  /-- Raised by an arm of `exec` whose instruction has no meaning yet (none has this now). Safe. -/
  | notModelled (mnemonic : String)
  deriving DecidableEq, Repr

/-- "The hardware's first state is the state after a `RESET`" (R200), the power-on: R50's values, every buffer cell
unspecified (nothing listed), nothing emitted, nothing pending. The parameters are R7's reference instantiation
(PRESUMED, unsafe: log entry 1). -/
def State.reset : State where
  cfg := Config.reference
  txtype := 0x01
  txn := 0
  txpos := 0
  txcs := 0
  txbusy := false
  txbuf := []
  txout := []
  rxst := .idle
  rxtype := 0
  rxlen := 0
  rxn := 0
  rxpos := 0
  rxcs := 0
  rxck := 0
  ckpres := false
  csok := false
  trail := false
  rxerr := .none
  rxbuf := []
  csacc := 0
  operr := false
  operrc := .none
  results := []
  powerOns := 0
  pending := []

end Sys2Proof.Machine
end

