-- ==== Sys2Proof/Machine/Ops.lean ====
section
/-! DEFINITION. The shared operations: byte order, the payload buffers, the result of a host operation, the two kinds
of error and the return from them. -/

namespace Sys2Proof.Machine

/-! ### Byte extraction and byte order (00_scope.md R9; 20_memory.md R61, R62) -/

/-- `v[15:8]`. -/
def hi8 (v : Half) : Byte := BitVec.extractLsb' 8 8 v

/-- `v[7:0]`. -/
def lo8 (v : Half) : Byte := BitVec.extractLsb' 0 8 v

/-- `be16(b0, b1) = b0 * 256 + b1` (R9): the first byte in the more significant half. -/
def be16 (b0 b1 : Byte) : Half := (b0 ++ b1 : BitVec (8 + 8))

/-- `zext_16(b)` (R9). -/
def zext16 (b : Byte) : Half := BitVec.setWidth 16 b

/-! ### The payload buffers (10_state.md R44, R45; 20_memory.md R78) -/

/-- The byte listed at index `i`, if one is. -/
def Memory.lookup : Memory → Nat → Option Byte
  | [], _ => none
  | (k, v) :: m, i => if k = i then some v else Memory.lookup m i

/-- Writing byte `b` at index `i`, keeping the canonical form. -/
def Memory.store : Memory → Nat → Byte → Memory
  | [], i, b => [(i, b)]
  | (k, v) :: m, i, b =>
    if i < k then (i, b) :: (k, v) :: m
    else if i = k then (i, b) :: m
    else (k, v) :: Memory.store m i b

/-- Every listed index is below `n`: the buffer has cells `0..n-1` only (R44, R45). -/
abbrev Memory.below (m : Memory) (n : Nat) : Prop := ∀ c ∈ m, c.1 < n

/-- `TXBUF[i]`: the byte written last, or the unspecified byte of the last power-on (U1, log entry 2). -/
def txCell (s : State) (i : Nat) : Byte :=
  match Memory.lookup s.txbuf i with
  | some b => b
  | none => Config.powerOnTx s.powerOns i

/-- `RXBUF[i]`: the byte written last, or the unspecified byte of the last power-on (U1, log entry 2). -/
def rxCell (s : State) (i : Nat) : Byte :=
  match Memory.lookup s.rxbuf i with
  | some b => b
  | none => Config.powerOnRx s.powerOns i

/-- `TXBUF[i] <- b`. -/
def txStore (i : Nat) (b : Byte) (s : State) : State := { s with txbuf := Memory.store s.txbuf i b }

/-- `RXBUF[i] <- b`. -/
def rxStore (i : Nat) (b : Byte) (s : State) : State := { s with rxbuf := Memory.store s.rxbuf i b }

/-! ### The result of a host operation (30_encoding.md R87) -/

/-- The machine hands `result(ok, val)` to the host. -/
def giveResult (ok : Bool) (val : Half) (s : State) : State :=
  { s with results := s.results ++ [{ ok := ok, val := val }] }

/-- An accepted operation: the next state is `s` with `result(1, val)` returned (R87). -/
def accept (val : Half) (s : State) : Host.Outcome State Fault Refusal := .next (giveResult true val s)

/-! ### The two kinds of error (60_exceptions.md R170) and the return from each (R187) -/

/-- The record of a refusal: the first cause since `CLRERR` or `RESET` is kept (R176). -/
def recordRefusal (cause : OpError) (s : State) : State :=
  if s.operr then s else { s with operr := true, operrc := cause }

/-- `refuse(cause)` (R176): the refusal is recorded, `result(0, 0)` is returned, nothing else changes. -/
def refuse (cause : OpError) (s : State) : Host.Outcome State Fault Refusal :=
  .next (giveResult false 0 (recordRefusal cause s))

/-- `CLRERR`'s effect: the refusal record is cleared (R163, R187). -/
def clearRefusal (s : State) : State := { s with operr := false, operrc := .none }

/-- `rxfail(code)` (R172): `RXST <- ERR; RXERR <- code`, and nothing else. -/
def rxfail (code : RxError) (s : State) : State := { s with rxst := .err, rxerr := code }

/-- `DECGO`'s effect: all receive-side registers and flags are cleared and the decoder is armed (R131, R187).
`RXBUF` is not touched. -/
def armDecoder (s : State) : State :=
  { s with
    rxst := .run, rxpos := 0, rxcs := 0, rxtype := 0, rxlen := 0, rxn := 0, rxck := 0
    ckpres := false, csok := false, trail := false, rxerr := .none }

/-! ### Reset (70_reset_and_hazards.md R200) -/

/-- `RESET` writes every register and flag to its reset value (R50, R200). It writes neither buffer, and the records
and parameters stay. -/
def resetRegisters (s : State) : State :=
  { s with
    txtype := 0x01, txn := 0, txpos := 0, txcs := 0, txbusy := false
    rxst := .idle, rxtype := 0, rxlen := 0, rxn := 0, rxpos := 0, rxcs := 0, rxck := 0
    ckpres := false, csok := false, trail := false, rxerr := .none
    csacc := 0, operr := false, operrc := .none }

/-- What a power-on does beside a `RESET`: "every buffer cell takes an unspecified value" (R200): nothing is listed
any more, and the unlisted cells' free values are fresh (log entry 2). -/
def scrambleBuffers (s : State) : State :=
  { s with txbuf := [], rxbuf := [], powerOns := s.powerOns + 1 }

end Sys2Proof.Machine
end

