-- ==== Sys2Proof/Machine/Flags.lean ====
section
/-! DEFINITION. The numbers of the flag fields, the view STATUS (10_state.md R26), and the checksum arithmetic
(40_checksum.md R100, R101). -/

namespace Sys2Proof.Machine

/-- The number of a decoder state in `STATUS[2:1]` (R26). -/
def RxState.code : RxState → BitVec 2
  | .idle => 0
  | .run => 1
  | .done => 2
  | .err => 3

/-- The number of a decode failure's cause in `STATUS[10:8]` (R26, R172). -/
def RxError.code : RxError → BitVec 3
  | .none => 0
  | .hdr => 1
  | .addr => 2
  | .len => 3
  | .short => 4

/-- The number of a refusal's cause in `STATUS[15:12]` (R26, R176). -/
def OpError.code : OpError → BitVec 4
  | .none => 0
  | .illop => 1
  | .badreg => 2
  | .txbusy => 3
  | .index => 4
  | .txrange => 5

/-- `STATUS` (R26), most significant field first: `OPERRC`, 0, `RXERR`, 0, `OPERR`, `TRAIL`, `CSOK`, `CKPRES`,
`RXST`, `TXBUSY`. -/
def statusWord (s : State) : Half :=
  (OpError.code s.operrc ++ 0#1 ++ RxError.code s.rxerr ++ 0#1 ++ BitVec.ofBool s.operr ++ BitVec.ofBool s.trail
    ++ BitVec.ofBool s.csok ++ BitVec.ofBool s.ckpres ++ RxState.code s.rxst ++ BitVec.ofBool s.txbusy
    : BitVec (4 + 1 + 3 + 1 + 1 + 1 + 1 + 1 + 2 + 1))

/-- `acc <- (acc + zext_16(b)) mod 65536`: the carry out of bit 15 is discarded and sets no flag (R101). -/
def addByte (acc : Half) (b : Byte) : Half := acc + zext16 b

/-- The validator's verdict (R142): the accumulator against the checksum just completed. -/
def checksumVerdict (rxcs rxck : Half) : Bool := decide (rxcs = rxck)

end Sys2Proof.Machine
end

