-- ==== Sys2Proof/Machine/Operands.lean ====
section
/-! DEFINITION. The operand forms of the host operations: register numbers (10_state.md R22), buffer indices
(20_memory.md R78), the payload count (41_encoder.md R113). -/

namespace Sys2Proof.Machine

/-- The value `RDREG r` reads, zero-extended to 16 bits (R22, R161); `none` for a number that is not implemented
(R52). -/
def readRegister (r : Byte) (s : State) : Option Half :=
  match r.toNat with
  | 0x00 => some (statusWord s)
  | 0x01 => some (zext16 s.txtype)
  | 0x02 => some s.txn
  | 0x03 => some s.txpos
  | 0x04 => some s.txcs
  | 0x05 => some (zext16 s.rxtype)
  | 0x06 => some s.rxlen
  | 0x07 => some s.rxn
  | 0x08 => some s.rxpos
  | 0x09 => some s.rxcs
  | 0x0A => some s.rxck
  | 0x0B => some s.csacc
  | _ => none

/-- The state after `WRREG r, v` has written its register: `TXTYPE` takes `v[7:0]`, `TXN` takes `v` (R162); `none` for
a number that is read-only or not implemented (R22, R52). -/
def writeRegister (r : Byte) (v : Half) (s : State) : Option State :=
  match r.toNat with
  | 0x01 => some { s with txtype := lo8 v }
  | 0x02 => some { s with txn := v }
  | _ => none

/-- Cell `i` exists: `i <= MAXP - 1` (R78). The index is the full operand; it does not wrap. -/
def cellExists (s : State) (i : Nat) : Bool := decide (i < s.cfg.maxp)

/-- The payload count is one `ENCGO` accepts: not (`TXN = 0` or `TXN > MAXP`) (R113). -/
def payloadCountLegal (s : State) : Bool := decide (1 ≤ s.txn.toNat) && decide (s.txn.toNat ≤ s.cfg.maxp)

/-- The received length field is legal: not (`L < 3` or `L - 2 > MAXP`), compared as integers (R137). -/
def lengthLegal (s : State) (len : Half) : Bool := decide (3 ≤ len.toNat) && decide (len.toNat - 2 ≤ s.cfg.maxp)

end Sys2Proof.Machine
end

