-- ==== Sys2Proof/Machine/Checksum.lean ====
section
/-! DEFINITION. The stand-alone checksum unit (40_checksum.md): CSCLR, CSADD, CSCMP. -/

namespace Sys2Proof.Machine

/-- `CSCLR` (R102). -/
def execCsclr (s : State) : Host.Outcome State Fault Refusal := accept 0 { s with csacc := 0 }

/-- `CSADD b` (R103). -/
def execCsadd (b : Byte) (s : State) : Host.Outcome State Fault Refusal :=
  accept 0 { s with csacc := addByte s.csacc b }

/-- `CSCMP v` (R104): a mismatch is a result, not a refusal. -/
def execCscmp (v : Half) (s : State) : Host.Outcome State Fault Refusal :=
  accept (if s.csacc = v then 1 else 0) s

end Sys2Proof.Machine
end

