-- ==== Sys2Proof/Machine/Control.lean ====
section
/-! DEFINITION. The control operations (43_control.md): NOP, RDREG, WRREG, CLRERR, and what a reserved code does. -/

namespace Sys2Proof.Machine

/-- `NOP` (R160). -/
def execNop (s : State) : Host.Outcome State Fault Refusal := accept 0 s

/-- `RDREG r` (R161). -/
def execRdreg (r : Byte) (s : State) : Host.Outcome State Fault Refusal :=
  match readRegister r s with
  | none => refuse .badreg s
  | some v => accept v s

/-- `WRREG r, v` (R162): `BADREG` is checked before `TXBUSY`. -/
def execWrreg (r : Byte) (v : Half) (s : State) : Host.Outcome State Fault Refusal :=
  match writeRegister r v s with
  | none => refuse .badreg s
  | some s' => if s.txbusy then refuse .txbusy s else accept 0 s'

/-- `CLRERR` (R163). -/
def execClrerr (s : State) : Host.Outcome State Fault Refusal := accept 0 (clearRefusal s)

/-- A command word with a reserved operation code: `refuse(ILLOP)` (R89, R164). -/
def reservedCode (s : State) : Host.Outcome State Fault Refusal := refuse .illop s

end Sys2Proof.Machine
end

