-- ==== Sys2Proof/Machine/Frame.lean ====
section
/-! DEFINITION. The wire frame (30_encoding.md R80 to R84) and the checksum function (40_checksum.md R100). -/

namespace Sys2Proof.Machine

/-- `csum16` of a sequence of bytes: their sum modulo 65536 (R100). -/
def csum16 (bs : List Byte) : Half := BitVec.ofNat 16 (bs.map BitVec.toNat).sum

/-- `BE16(v)`: high byte first (R9, R61). -/
def be16Bytes (v : Half) : List Byte := [hi8 v, lo8 v]

/-- The fixed byte at frame offset `p <= 5` (R80): the header's two bytes, then the address's four, each most
significant byte first. The encoder sends it (R115, R116) and the decoder expects it (`E[p]` of 42_decoder.md). -/
def prefixByte (c : Config) : Nat → Byte
  | 0 => hi8 c.hdr
  | 1 => lo8 c.hdr
  | 2 => BitVec.extractLsb' 24 8 c.addr
  | 3 => BitVec.extractLsb' 16 8 c.addr
  | 4 => BitVec.extractLsb' 8 8 c.addr
  | _ => BitVec.extractLsb' 0 8 c.addr

/-- The length field of a frame whose wire payload has `n` bytes: `n + 2` (R81). -/
def lengthField (n : Half) : Half := n + 2

/-- The bytes the checksum is taken over (R82): package type, length field, wire payload. -/
def summedBytes (t : Byte) (w : List Byte) : List Byte :=
  t :: be16Bytes (lengthField (BitVec.ofNat 16 w.length)) ++ w

/-- The frame of package type `t` and wire payload `w` in closed form (R84). -/
def frame (c : Config) (t : Byte) (w : List Byte) : List Byte :=
  be16Bytes c.hdr
    ++ [BitVec.extractLsb' 24 8 c.addr, BitVec.extractLsb' 16 8 c.addr, BitVec.extractLsb' 8 8 c.addr,
        BitVec.extractLsb' 0 8 c.addr]
    ++ summedBytes t w
    ++ be16Bytes (csum16 (summedBytes t w))

end Sys2Proof.Machine
end

