-- ==== Sys2Proof/Machine/Decoder.lean ====
section
/-! DEFINITION. The decoder (42_decoder.md): DECGO, RXRD, RXRDW, and the receive events RXB and RXE. -/

namespace Sys2Proof.Machine

/-- `DECGO` (R131). -/
def execDecgo (s : State) : Host.Outcome State Fault Refusal := accept 0 (armDecoder s)

/-- `RXRD i` (R152). -/
def execRxrd (i : Half) (s : State) : Host.Outcome State Fault Refusal :=
  if cellExists s i.toNat then accept (zext16 (rxCell s i.toNat)) s else refuse .index s

/-- `RXRDW i` (R153): big-endian; the sum `i + 1` is on integers. -/
def execRxrdw (i : Half) (s : State) : Host.Outcome State Fault Refusal :=
  if cellExists s (i.toNat + 1) then accept (be16 (rxCell s i.toNat) (rxCell s (i.toNat + 1))) s
  else refuse .index s

/-- "Accept" means `RXPOS <- p + 1` (R133). -/
def rxAccept (s : State) : State := { s with rxpos := s.rxpos + 1 }

/-- A header or address byte: accepted if it equals the expected byte, else `rxfail(code)`; neither stored nor summed
(R134, R135). -/
def rxPrefix (code : RxError) (b : Byte) (s : State) : State :=
  if b = prefixByte s.cfg s.rxpos.toNat then rxAccept s else rxfail code s

/-- `RXCS <- (RXCS + zext_16(b)) mod 65536; accept` (R136 to R138). -/
def rxSummed (b : Byte) (s : State) : State := { rxAccept s with rxcs := addByte s.rxcs b }

/-- The package type (R136). -/
def rxPackageType (b : Byte) (s : State) : State := { rxSummed b s with rxtype := b }

/-- The high length byte: `RXLEN[15:8] <- b` (R137). -/
def rxLengthHigh (b : Byte) (s : State) : State := { rxSummed b s with rxlen := be16 b (lo8 s.rxlen) }

/-- The low length byte: `RXLEN[7:0] <- b`, and then the test of the length (R137). -/
def rxLengthLow (b : Byte) (s : State) : State :=
  let len := be16 (hi8 s.rxlen) b
  let s' := { rxSummed b s with rxlen := len }
  if lengthLegal s len then { s' with rxn := len - 2 } else rxfail .len s'

/-- A payload byte (R138), stored in the cell of its payload index. -/
def rxPayload (b : Byte) (s : State) : State := rxStore (s.rxpos.toNat - 9) b (rxSummed b s)

/-- The high checksum byte: `RXCK[15:8] <- b; accept`; not summed (R140). -/
def rxChecksumHigh (b : Byte) (s : State) : State := { rxAccept s with rxck := be16 b (lo8 s.rxck) }

/-- The low checksum byte (R141) and the validator's verdict (R142): the frame is complete whatever the checksum
says. -/
def rxChecksumLow (b : Byte) (s : State) : State :=
  let ck := be16 (hi8 s.rxck) b
  { rxAccept s with rxck := ck, ckpres := true, csok := checksumVerdict s.rxcs ck, rxst := .done }

/-- `RXB b` with `RXST = RUN` (R133): the rule is chosen by `RXPOS`. Where none applies it faults (log entry 7). -/
def rxbRun (b : Byte) (s : State) : Host.Outcome State Fault Refusal :=
  let p := s.rxpos.toNat
  let n := s.rxn.toNat
  if p ≤ 1 then .next (rxPrefix .hdr b s)
  else if p ≤ 5 then .next (rxPrefix .addr b s)
  else if p = 6 then .next (rxPackageType b s)
  else if p = 7 then .next (rxLengthHigh b s)
  else if p = 8 then .next (rxLengthLow b s)
  else if p ≤ 8 + n then
    if cellExists s (p - 9) then .next (rxPayload b s) else .fault .rxCellAbsent
  else if p = 9 + n then .next (rxChecksumHigh b s)
  else if p = 10 + n then .next (rxChecksumLow b s)
  else .fault .rxOutsideFrame

/-- `RXB b` (R132): in `RUN` by R133 to R142; in `DONE` the byte sets `TRAIL` and is discarded (R143); in `ERR` and
`IDLE` it is discarded (R144, R145). -/
def execRxb (b : Byte) (s : State) : Host.Outcome State Fault Refusal :=
  match s.rxst with
  | .run => rxbRun b s
  | .done => .next { s with trail := true }
  | .err => .next s
  | .idle => .next s

/-- `RXE` (R146): in `RUN`, `DONE` if all payload bytes were received (R147), else `rxfail(SHORT)` (R148); elsewhere
nothing (R149). -/
def execRxe (s : State) : Host.Outcome State Fault Refusal :=
  match s.rxst with
  | .run =>
    if 9 + s.rxn.toNat ≤ s.rxpos.toNat then .next { s with rxst := .done } else .next (rxfail .short s)
  | .done => .next s
  | .err => .next s
  | .idle => .next s

end Sys2Proof.Machine
end

