-- ==== Sys2Proof/Machine/Encoder.lean ====
section
/-! DEFINITION. The encoder (41_encoder.md): TXWR, ENCGO, and the autonomous step EMIT. -/

namespace Sys2Proof.Machine

/-- `TXWR i, b` (R111): `TXBUSY` is checked before `INDEX`. -/
def execTxwr (i : Half) (b : Byte) (s : State) : Host.Outcome State Fault Refusal :=
  if s.txbusy then refuse .txbusy s
  else if cellExists s i.toNat then accept 0 (txStore i.toNat b s)
  else refuse .index s

/-- The encoder at the start of a frame: `TXBUSY <- 1; TXPOS <- 0; TXCS <- 0` (R113). -/
def startFrame (s : State) : State := { s with txbusy := true, txpos := 0, txcs := 0 }

/-- `ENCGO` (R113): `TXBUSY` is checked before `TXRANGE`. It emits nothing itself. -/
def execEncgo (s : State) : Host.Outcome State Fault Refusal :=
  if s.txbusy then refuse .txbusy s
  else if payloadCountLegal s then accept 0 (startFrame s)
  else refuse .txrange s

/-- `emit(o)` and `TXPOS <- TXPOS + 1`, which every `EMIT` does (R114; R47). -/
def emitByte (o : Byte) (s : State) : State := { s with txout := s.txout ++ [o], txpos := s.txpos + 1 }

/-- An emitted byte that the checksum sums: `TXCS <- (TXCS + zext_16(o)) mod 65536` (R117 to R119). -/
def emitSummed (o : Byte) (s : State) : State := { emitByte o s with txcs := addByte s.txcs o }

/-- One `EMIT`: the byte at frame offset `TXPOS` (R114 to R120). Where no rule applies it faults (log entry 7). -/
def emit (s : State) : Host.Outcome State Fault Refusal :=
  let p := s.txpos.toNat
  let n := s.txn.toNat
  if p ≤ 5 then .next (emitByte (prefixByte s.cfg p) s)
  else if p = 6 then .next (emitSummed s.txtype s)
  else if p = 7 then .next (emitSummed (hi8 (lengthField s.txn)) s)
  else if p = 8 then .next (emitSummed (lo8 (lengthField s.txn)) s)
  else if p ≤ 8 + n then
    if cellExists s (p - 9) then .next (emitSummed (txCell s (p - 9)) s) else .fault .txCellAbsent
  else if p = 9 + n then .next (emitByte (hi8 s.txcs) s)
  else if p = 10 + n then .next { emitByte (lo8 s.txcs) s with txbusy := false }
  else .fault .emitOutsideFrame

/-- The encoder's turn: `EMIT` is enabled exactly when `TXBUSY = 1` (R114); otherwise the encoder has no step and
nothing happens (log entry 4). -/
def encoderTurn (s : State) : Host.Outcome State Fault Refusal := if s.txbusy then emit s else .next s

end Sys2Proof.Machine
end

