-- ==== Sys2Proof/Machine/Dispatch.lean ====
section
/-! DEFINITION. The dispatch of an instruction to its meaning. -/

namespace Sys2Proof.Machine

def exec (i : Instr) (s : State) : Host.Outcome State Fault Refusal :=
  match i with
  | .nop => Sys2Proof.Machine.execNop s
  | .rdreg r => Sys2Proof.Machine.execRdreg r s
  | .wrreg r v => Sys2Proof.Machine.execWrreg r v s
  | .txwr idx b => Sys2Proof.Machine.execTxwr idx b s
  | .rxrd idx => Sys2Proof.Machine.execRxrd idx s
  | .rxrdw idx => Sys2Proof.Machine.execRxrdw idx s
  | .encgo => Sys2Proof.Machine.execEncgo s
  | .decgo => Sys2Proof.Machine.execDecgo s
  | .csclr => Sys2Proof.Machine.execCsclr s
  | .csadd b => Sys2Proof.Machine.execCsadd b s
  | .cscmp v => Sys2Proof.Machine.execCscmp v s
  | .clrerr => Sys2Proof.Machine.execClrerr s
  | .rxb b => Sys2Proof.Machine.execRxb b s
  | .rxe => Sys2Proof.Machine.execRxe s

end Sys2Proof.Machine
end

