-- ==== Sys2Proof/Machine/Events.lean ====
section
/-! DEFINITION. The four kinds of event (00_scope.md R11): what the machine does when each occurs. -/

namespace Sys2Proof.Machine

/-- `HOST(cw)`: the operation the code selects (R88), or `refuse(ILLOP)` (R89, R164). -/
def hostEvent (cw : CommandWord) (s : State) : Host.Outcome State Fault Refusal :=
  match decodeCommand cw with
  | .ok i => exec i s
  | .error _ => reservedCode s

/-- `RX(rs)`: the event the symbol selects (R90). -/
def rxEvent (rs : Symbol) (s : State) : Host.Outcome State Fault Refusal := exec (decodeSymbol rs) s

/-- `RESET`, or a power-on (R200). -/
def resetEvent (powerOn : Bool) (s : State) : State :=
  if powerOn then scrambleBuffers (resetRegisters s) else resetRegisters s

/-- One event, atomically (R11, R66). -/
def runEvent (e : Event) (s : State) : Host.Outcome State Fault Refusal :=
  match e with
  | .host cw => hostEvent cw s
  | .enc => encoderTurn s
  | .rx rs => rxEvent rs s
  | .reset powerOn => .next (resetEvent powerOn s)

/-- The event that presents a word at its port. -/
def portEvent : PortWord → Event
  | .command cw => .host cw
  | .symbol rs => .rx rs

/-- The pending event stands before those already pending. -/
def present (e : Event) (s : State) : State := { s with pending := e :: s.pending }

/-- The number `w` of a table row of `nbits` bits, presented at its port as the very next event; a number that is no
port word presents nothing. -/
def presentTableWord (nbits w : Nat) (s : State) : State :=
  match tablePortWord nbits w with
  | .ok pw => present (portEvent pw) s
  | .error _ => s

end Sys2Proof.Machine
end

