-- ==== Sys2Proof/Machine/Step.lean ====
section
/-! DEFINITION. One step of the machine. -/

namespace Sys2Proof.Machine

/-- One step: the first pending event occurs (R68). With nothing pending the encoder, the one agent that moves by
itself, has its turn (R12, R221): it emits while `TXBUSY = 1`, and otherwise nothing happens, since "it has no halt"
(R13; log entry 5). -/
def step (s : State) : Host.Outcome State Fault Refusal :=
  match s.pending with
  | [] => encoderTurn s
  | e :: rest => runEvent e { s with pending := rest }

/-- `s` with a table row's word presented at its port as the very next event: "Host operations arrive one at a time on
the command port" (R23), and symbols from the link (R90); nothing is fetched (log entry 8). -/
def State.withFetchWord (s : State) (nbits w : Nat) : State := presentTableWord nbits w s

end Sys2Proof.Machine
end

