-- ==== Sys2Proof/Safety.lean ====
section
/-! DEFINITION. The invariants of a safe run (10_state.md R49, with R7, R24, R25 and the buffers' canonical form), and
the terms that statements about runs are written in. -/

namespace Sys2Proof.Machine

/-- R49(a), for the transmit side, with R24's bound on `TXPOS`. -/
structure TxInv (s : State) : Prop where
  /-- R49(a): "`TXBUSY = 1` implies `1 <= TXN <= MAXP` and `TXPOS <= 10 + TXN`". -/
  busy     : s.txbusy = true → 1 ≤ s.txn.toNat ∧ s.txn.toNat ≤ s.cfg.maxp ∧ s.txpos.toNat ≤ 10 + s.txn.toNat
  /-- R24: "its largest value is `11 + MAXP`". -/
  posBound : s.txpos.toNat ≤ 11 + s.cfg.maxp

/-- R49(b) to (f) and (h), for the receive side, with R25's bound on `RXPOS` and one clause that R49 does not list. -/
structure RxInv (s : State) : Prop where
  /-- R49(b), before the length is known. -/
  runEarly   : s.rxst = .run → s.rxpos.toNat < 9 → s.rxn = 0
  /-- R49(b), once the length is known; `RXN = RXLEN - 2` on integers. -/
  runLate    : s.rxst = .run → 9 ≤ s.rxpos.toNat →
    1 ≤ s.rxn.toNat ∧ s.rxn.toNat ≤ s.cfg.maxp ∧ s.rxlen.toNat = s.rxn.toNat + 2 ∧ s.rxpos.toNat ≤ 10 + s.rxn.toNat
  /-- R49(c). -/
  done       : s.rxst = .done →
    1 ≤ s.rxn.toNat ∧ s.rxn.toNat ≤ s.cfg.maxp ∧ s.rxlen.toNat = s.rxn.toNat + 2 ∧ s.rxerr = .none ∧
      9 + s.rxn.toNat ≤ s.rxpos.toNat ∧ s.rxpos.toNat ≤ 11 + s.rxn.toNat ∧
      (s.ckpres = true ↔ s.rxpos.toNat = 11 + s.rxn.toNat)
  /-- R49(d). -/
  err        : s.rxst = .err ↔ s.rxerr ≠ .none
  /-- R49(e). -/
  csok       : s.csok = true → s.ckpres = true ∧ s.rxst = .done ∧ s.rxcs = s.rxck
  /-- R49(f). -/
  trail      : s.trail = true → s.rxst = .done
  /-- DEDUCED from R29 and R141: `CKPRES = 1` implies `RXST = DONE`. R49 does not list it; (c) and (e) need it. -/
  ckpresDone : s.ckpres = true → s.rxst = .done
  /-- R49(h). -/
  idle       : s.rxst = .idle →
    s.rxtype = 0 ∧ s.rxlen = 0 ∧ s.rxn = 0 ∧ s.rxpos = 0 ∧ s.rxcs = 0 ∧ s.rxck = 0 ∧
      s.ckpres = false ∧ s.csok = false ∧ s.trail = false ∧ s.rxerr = .none
  /-- R25: "Largest value `11 + MAXP`". -/
  posBound   : s.rxpos.toNat ≤ 11 + s.cfg.maxp

/-- The buffers: canonical, and no cell listed that does not exist (R44, R45). -/
structure BufInv (s : State) : Prop where
  txWf    : Memory.wf s.txbuf
  txBelow : Memory.below s.txbuf s.cfg.maxp
  rxWf    : Memory.wf s.rxbuf
  rxBelow : Memory.below s.rxbuf s.cfg.maxp

/-- The invariant of a safe run: R49 whole, legal parameters (R7), and the buffers' form. -/
structure MachineInv (s : State) : Prop where
  /-- R7: `1 <= MAXP <= 65524`. -/
  params : Config.wf s.cfg = true
  tx     : TxInv s
  rx     : RxInv s
  /-- R49(g). -/
  operr  : s.operr = false ↔ s.operrc = .none
  buf    : BufInv s

/-! ### What a host operation leaves behind -/

/-- The state after an accepted operation that writes nothing and returns `val` (R87). -/
def afterAccept (val : Half) (s : State) : State :=
  { s with results := s.results ++ [{ ok := true, val := val }] }

/-- The state after an operation refused with `cause` (R176): "first refusal since CLRERR/RESET is remembered". -/
def afterRefusal (cause : OpError) (s : State) : State :=
  { s with
    operr := true, operrc := (if s.operr then s.operrc else cause)
    results := s.results ++ [{ ok := false, val := 0 }] }

/-- Every command word with the operation code selects the operation, with its operands taken from `A` and `B`
(R86, R88: "the match is on `CW[31:24]` alone"). -/
def Selects (code : Byte) (operation : Half → Byte → Instr) : Prop :=
  ∀ cw : CommandWord, BitVec.extractLsb' 24 8 cw = code →
    decodeCommand cw = .ok (operation (BitVec.extractLsb' 8 16 cw) (BitVec.extractLsb' 0 8 cw))

/-! ### The parts of the state -/

/-- The transmit side is the same in both states: registers, flag, cells, and the record of the stream. -/
def SameTx (s t : State) : Prop :=
  t.txtype = s.txtype ∧ t.txn = s.txn ∧ t.txpos = s.txpos ∧ t.txcs = s.txcs ∧ t.txbusy = s.txbusy ∧
    t.txout = s.txout ∧ ∀ i, txCell t i = txCell s i

/-- The receive side's registers and flags are the same in both states. -/
def SameRxRegs (s t : State) : Prop :=
  t.rxst = s.rxst ∧ t.rxpos = s.rxpos ∧ t.rxcs = s.rxcs ∧ t.rxtype = s.rxtype ∧ t.rxlen = s.rxlen ∧
    t.rxn = s.rxn ∧ t.rxck = s.rxck ∧ t.ckpres = s.ckpres ∧ t.csok = s.csok ∧ t.trail = s.trail ∧
    t.rxerr = s.rxerr

/-- The receive side is the same in both states: registers, flags and cells. -/
def SameRx (s t : State) : Prop := SameRxRegs s t ∧ ∀ i, rxCell t i = rxCell s i

/-- The stand-alone accumulator, the refusal record, the results and the parameters are the same in both states. -/
def SameHostSide (s t : State) : Prop :=
  t.csacc = s.csacc ∧ t.operr = s.operr ∧ t.operrc = s.operrc ∧ t.results = s.results ∧ t.cfg = s.cfg

/-! ### Sequences of steps and events -/

/-- `k` steps, stopping at the first fault or refusal (`Host.Core.run` of the machine, on its own types). -/
def runSteps : Nat → State → Host.Outcome State Fault Refusal
  | 0, s => .next s
  | k + 1, s =>
    match step s with
    | .next t => runSteps k t
    | .fault r => .fault r
    | .refused r => .refused r

/-- The event is a `RESET`. -/
def Event.isReset : Event → Bool
  | .reset _ => true
  | .host _ => false
  | .enc => false
  | .rx _ => false

/-- The event is the encoder's turn. -/
def Event.isEnc : Event → Bool
  | .enc => true
  | .host _ => false
  | .rx _ => false
  | .reset _ => false

/-- The event is a command word that decodes to `i`. -/
def Event.hostDoes (i : Instr) (e : Event) : Prop := ∃ cw, e = .host cw ∧ decodeCommand cw = .ok i

/-- The event neither resets the block nor arms the decoder (R150: "except `DECGO`"). -/
def Event.keepsReception : Event → Bool
  | .host cw =>
    match decodeCommand cw with
    | .ok .decgo => false
    | _ => true
  | .enc => true
  | .rx _ => true
  | .reset _ => false

/-- The receive symbol of an event, as the instruction it selects (R90). -/
def Event.received : Event → Option Instr
  | .rx rs => some (decodeSymbol rs)
  | .host _ => none
  | .enc => none
  | .reset _ => none

/-- The wire payload that a frame started now carries: `TXBUF[0..TXN-1]` (R84, R121). -/
def payload (s : State) : List Byte := (List.range s.txn.toNat).map (txCell s)

/-- The bits of a command word that the instruction's row uses: the code and the fields that are not ignored
(spec/opcode_table.json). The two receive symbols have no command word. -/
def usedBits : Instr → CommandWord
  | .nop => 0xFF000000
  | .rdreg _ => 0xFF0000FF
  | .wrreg _ _ => 0xFFFFFFFF
  | .txwr _ _ => 0xFFFFFFFF
  | .rxrd _ => 0xFFFFFF00
  | .rxrdw _ => 0xFFFFFF00
  | .encgo => 0xFF000000
  | .decgo => 0xFF000000
  | .csclr => 0xFF000000
  | .csadd _ => 0xFF0000FF
  | .cscmp _ => 0xFFFFFF00
  | .clrerr => 0xFF000000
  | .rxb _ => 0
  | .rxe => 0

/-! ### The outcome of a whole decode (R150) -/

/-- The received bytes agree with the expected prefix as far as they go. -/
def PrefixMatches (c : Config) (bs : List Byte) : Prop := ∀ j, j < 6 → j < bs.length → bs.getD j 0 = prefixByte c j

/-- The length field of a received byte sequence: `be16(s[7], s[8])`. -/
def receivedLength (bs : List Byte) : Half := be16 (bs.getD 7 0) (bs.getD 8 0)

/-- The decode's failure: `ERR` with its cause, at a position. -/
def FailedAt (t : State) (code : RxError) (pos : Nat) : Prop :=
  t.rxst = .err ∧ t.rxerr = code ∧ t.rxpos.toNat = pos

/-- R150's case 5, for a payload of `n` bytes. -/
structure Decoded (bs : List Byte) (n : Nat) (t : State) : Prop where
  st    : t.rxst = .done
  type  : t.rxtype = bs.getD 6 0
  len   : t.rxlen = receivedLength bs
  count : t.rxn.toNat = n
  cells : ∀ j, j < n → rxCell t j = bs.getD (9 + j) 0
  sum   : t.rxcs = csum16 ((bs.drop 6).take (3 + n))
  full  : 11 + n ≤ bs.length →
    t.ckpres = true ∧ t.rxck = be16 (bs.getD (9 + n) 0) (bs.getD (10 + n) 0) ∧
      (t.csok = true ↔ t.rxcs = t.rxck) ∧ t.rxpos.toNat = 11 + n ∧ (t.trail = true ↔ 11 + n < bs.length)
  half  : bs.length = 10 + n →
    t.ckpres = false ∧ t.csok = false ∧ t.rxck.toNat = (bs.getD (9 + n) 0).toNat * 256 ∧ t.rxpos.toNat = 10 + n ∧
      t.trail = false
  bare  : bs.length = 9 + n →
    t.ckpres = false ∧ t.csok = false ∧ t.rxck = 0 ∧ t.rxpos.toNat = 9 + n ∧ t.trail = false

/-- R150: the outcome of feeding the bytes `bs` and then `RXE` to a decoder just armed; "the first case that
applies". -/
structure DecodeOutcome (c : Config) (bs : List Byte) (t : State) : Prop where
  /-- Case 1: the least mismatching prefix byte. -/
  mismatch : ∀ i, i < 6 → i < bs.length → PrefixMatches c (bs.take i) → bs.getD i 0 ≠ prefixByte c i →
    FailedAt t (if i ≤ 1 then .hdr else .addr) i
  /-- Case 2: fewer than nine bytes. -/
  early    : PrefixMatches c bs → bs.length < 9 → FailedAt t .short bs.length
  /-- Case 3: an illegal length field. -/
  badLen   : PrefixMatches c bs → 9 ≤ bs.length →
    ((receivedLength bs).toNat < 3 ∨ c.maxp + 2 < (receivedLength bs).toNat) →
    FailedAt t .len 9 ∧ t.rxlen = receivedLength bs ∧ t.rxtype = bs.getD 6 0
  /-- Case 4: the payload is incomplete. -/
  late     : ∀ n, PrefixMatches c bs → 9 ≤ bs.length → (receivedLength bs).toNat = n + 2 → 1 ≤ n → n ≤ c.maxp →
    bs.length < 9 + n → FailedAt t .short bs.length
  /-- Case 5: the decode succeeds. -/
  success  : ∀ n, PrefixMatches c bs → 9 ≤ bs.length → (receivedLength bs).toNat = n + 2 → 1 ≤ n → n ≤ c.maxp →
    9 + n ≤ bs.length → Decoded bs n t

/-- The bytes decide the outcome without an end marker: "cases 1 and 3 and the `k >= 11 + n` branch of case 5 do not
wait for `RXE`" (R150). -/
def DecidedEarly (c : Config) (bs : List Byte) : Prop :=
  (∃ i, i < 6 ∧ i < bs.length ∧ bs.getD i 0 ≠ prefixByte c i) ∨
  (PrefixMatches c bs ∧ 9 ≤ bs.length ∧
    ((receivedLength bs).toNat < 3 ∨ c.maxp + 2 < (receivedLength bs).toNat)) ∨
  (PrefixMatches c bs ∧ ∃ n, (receivedLength bs).toNat = n + 2 ∧ 1 ≤ n ∧ n ≤ c.maxp ∧ 11 + n ≤ bs.length)

end Sys2Proof.Machine
end

