-- ==== Sys2Proof/Certificates/Slice0/Obligations.lean ====
section
/-! DEFINITION. The statements about the model, for the provers. Each docstring names the rule it formalises. -/

open Sys2Proof Sys2Proof.Machine

/-! ### Encoding and stepping -/

/-- 30_encoding.md R86, R88, R90, R93: decoding the encoding of a well-formed instruction gives it back, with every
operand at every value; the same through the numbers of the opcode table. -/
def Obligations.DecodeOfEncodeIsTheInstruction : Prop :=
  ∀ i : Instr, Instr.wf i = true →
    decode (encode i) = .ok i ∧
    (∀ cw, encode i = .command cw → decodeTableWord 32 cw.toNat = some i) ∧
    (∀ rs, encode i = .symbol rs → decodeTableWord 16 rs.toNat = some i)

/-- 30_encoding.md R86, R88, R90, R92: a word that decodes is the encoding of what it decodes to, up to the fields its
row ignores. -/
def Obligations.EncodeOfDecodeKeepsTheUsedFields : Prop :=
  (∀ (cw : CommandWord) (i : Instr), decodeCommand cw = .ok i → encode i = .command (cw &&& usedBits i)) ∧
  (∀ rs : Symbol, encode (decodeSymbol rs) = .symbol (if rs.getLsbD 8 then 0x100 else rs))

/-- R89, R164: the reserved codes, and they alone, are no operation, and such a word is refused with `ILLOP` whatever
its operand fields and the state. -/
def Obligations.ReservedCodesAreRefusedWithIllop : Prop :=
  ∀ cw : CommandWord,
    (0x0C ≤ (BitVec.extractLsb' 24 8 cw).toNat →
      (∀ i, decodeCommand cw ≠ .ok i) ∧
      ∀ s : State, runEvent (.host cw) s = .next (afterRefusal .illop s)) ∧
    ((BitVec.extractLsb' 24 8 cw).toNat < 0x0C → ∃ i, decodeCommand cw = .ok i)

/-- R88, R90: words written out from the encodings decode to the instructions they stand for. -/
def Obligations.WordsOfTheOperationMapDecode : Prop :=
  decodeCommand 0x00FFFFFF = .ok .nop ∧
  decodeCommand 0x0100000B = .ok (.rdreg 0x0B) ∧
  decodeCommand 0x02123401 = .ok (.wrreg 0x01 0x1234) ∧
  decodeCommand 0x0300FF7E = .ok (.txwr 0x00FF 0x7E) ∧
  decodeCommand 0x04010000 = .ok (.rxrd 0x0100) ∧
  decodeCommand 0x05000300 = .ok (.rxrdw 0x0003) ∧
  decodeCommand 0x06000000 = .ok .encgo ∧
  decodeCommand 0x07ABCDEF = .ok .decgo ∧
  decodeCommand 0x08000000 = .ok .csclr ∧
  decodeCommand 0x09FFFF80 = .ok (.csadd 0x80) ∧
  decodeCommand 0x0A000500 = .ok (.cscmp 0x0005) ∧
  decodeCommand 0x0B000000 = .ok .clrerr ∧
  decodeSymbol 0x0EF = .rxb 0xEF ∧
  decodeSymbol 0x155 = .rxe

/-- R11, R68: a step is the first pending event: a command word that decodes to a well-formed instruction runs it, a
symbol runs what it decodes to, the encoder's turn is an `EMIT` exactly when `TXBUSY = 1` (R114), a `RESET` resets.
With nothing pending the encoder has its turn (the model's choice, log entry 5; the same for a turn without an `EMIT`,
log entry 4). -/
def Obligations.StepRunsTheFirstPendingEvent : Prop :=
  ∀ (s : State) (rest : List Event),
    (∀ cw i, s.pending = .host cw :: rest → decodeCommand cw = .ok i → Instr.wf i = true →
      step s = exec i { s with pending := rest }) ∧
    (∀ rs, s.pending = .rx rs :: rest → step s = exec (decodeSymbol rs) { s with pending := rest }) ∧
    (s.pending = .enc :: rest → s.txbusy = true → step s = emit { s with pending := rest }) ∧
    (s.pending = .enc :: rest → s.txbusy = false → step s = .next { s with pending := rest }) ∧
    (∀ p, s.pending = .reset p :: rest → step s = .next (resetEvent p { s with pending := rest })) ∧
    (s.pending = [] → s.txbusy = true → step s = emit s) ∧
    (s.pending = [] → s.txbusy = false → step s = .next s)

/-- How a program comes to run (the model's choice, log entry 8; the words are R86's and R90's): a word presented with
`withFetchWord` is the very next event, so the next step runs the instruction it decodes to, and a command word with a
reserved code is refused with `ILLOP` (R89, R164). -/
def Obligations.PresentedTableWordRunsNext : Prop :=
  ∀ (s : State) (nbits w : Nat),
    (∀ i, decodeTableWord nbits w = some i → step (State.withFetchWord s nbits w) = exec i s) ∧
    (16 < nbits → 0x0C000000 ≤ w → w < 2 ^ 32 →
      decodeTableWord nbits w = none ∧ step (State.withFetchWord s nbits w) = .next (afterRefusal .illop s))

/-! ### Reset and the invariant -/

/-- R200, R50: what a `RESET` writes and what it leaves; and the first state is the state after a `RESET`. The clause on
a power-on, that every cell then reads the opaque value that Config gives for that power-on, is no sentence of R200,
which says only that the cells are unspecified: it is the model's choice, a DESIGN CHOICE, log entry 2. -/
def Obligations.ResetWritesEveryRegisterAndNoBuffer : Prop :=
  ∀ (s : State) (powerOn : Bool), ∃ t, runEvent (.reset powerOn) s = .next t ∧
    t.txtype = 0x01 ∧ t.txn = 0 ∧ t.txpos = 0 ∧ t.txcs = 0 ∧ t.txbusy = false ∧
    t.rxst = .idle ∧ t.rxtype = 0 ∧ t.rxlen = 0 ∧ t.rxn = 0 ∧ t.rxpos = 0 ∧ t.rxcs = 0 ∧ t.rxck = 0 ∧
    t.ckpres = false ∧ t.csok = false ∧ t.trail = false ∧ t.rxerr = .none ∧
    t.csacc = 0 ∧ t.operr = false ∧ t.operrc = .none ∧ statusWord t = 0 ∧
    t.txout = s.txout ∧
    (powerOn = false → ∀ i, txCell t i = txCell s i ∧ rxCell t i = rxCell s i) ∧
    (powerOn = true → ∀ i, txCell t i = Config.powerOnTx (s.powerOns + 1) i ∧
      rxCell t i = Config.powerOnRx (s.powerOns + 1) i) ∧
    runEvent (.reset false) State.reset = .next State.reset

/-- R49 at the state after reset (whose parameters are the model's choice, log entry 1). -/
def Obligations.ResetStateMeetsTheInvariant : Prop := MachineInv State.reset

/-- R49, R7, R24, R25 and the buffers' canonical form: every step from a state that meets the invariant leads to one. -/
def Obligations.EveryStepKeepsTheInvariant : Prop :=
  ∀ s t : State, MachineInv s → step s = .next t → MachineInv t

/-- R170, R210: from a state that meets the invariant no step stops the machine, whatever the outside does. -/
def Obligations.NoStepStopsTheMachine : Prop :=
  ∀ s : State, MachineInv s → ∃ t, step s = .next t

/-- R24, R25: what each event does to the two position counters, as numbers, from a state that meets the invariant.
An `EMIT` adds 1 to `TXPOS` and an accepted byte adds 1 to `RXPOS` (a header or address byte is accepted when it equals
the expected byte, any later byte of the frame when it is latched), and neither sum wraps; an accepted `ENCGO` and a
`RESET` set `TXPOS` to 0, a `DECGO` and a `RESET` set `RXPOS` to 0; no other event changes either. -/
def Obligations.PositionCountersNeverWrap : Prop :=
  ∀ (s t : State) (e : Event), MachineInv s → runEvent e s = .next t →
    let emits : Prop := e = .enc ∧ s.txbusy = true
    let starts : Prop :=
      Event.hostDoes .encgo e ∧ s.txbusy = false ∧ 1 ≤ s.txn.toNat ∧ s.txn.toNat ≤ s.cfg.maxp
    let accepts : Prop := s.rxst = .run ∧ ∃ b, Event.received e = some (.rxb b) ∧
      (s.rxpos.toNat ≤ 5 → b = prefixByte s.cfg s.rxpos.toNat)
    let arms : Prop := Event.hostDoes .decgo e
    let resets : Prop := Event.isReset e = true
    (emits → t.txpos.toNat = s.txpos.toNat + 1) ∧
    (starts ∨ resets → t.txpos = 0) ∧
    (¬ emits → ¬ starts → ¬ resets → t.txpos = s.txpos) ∧
    (accepts → t.rxpos.toNat = s.rxpos.toNat + 1) ∧
    (arms ∨ resets → t.rxpos = 0) ∧
    (¬ accepts → ¬ arms → ¬ resets → t.rxpos = s.rxpos) ∧
    t.txpos.toNat ≤ 11 + t.cfg.maxp ∧ t.rxpos.toNat ≤ 11 + t.cfg.maxp ∧ 11 + t.cfg.maxp ≤ 65535

/-! ### Registers, the refusal record, control operations -/

/-- R26: the fields of `STATUS`, with their numbers; the reserved bits read 0; writing it is refused. -/
def Obligations.StatusIsTheViewOfTheFlags : Prop :=
  ∀ s : State,
    (statusWord s).getLsbD 0 = s.txbusy ∧
    BitVec.extractLsb' 1 2 (statusWord s) =
      (match s.rxst with | .idle => 0 | .run => 1 | .done => 2 | .err => 3) ∧
    (statusWord s).getLsbD 3 = s.ckpres ∧ (statusWord s).getLsbD 4 = s.csok ∧
    (statusWord s).getLsbD 5 = s.trail ∧ (statusWord s).getLsbD 6 = s.operr ∧
    (statusWord s).getLsbD 7 = false ∧
    BitVec.extractLsb' 8 3 (statusWord s) =
      (match s.rxerr with | .none => 0 | .hdr => 1 | .addr => 2 | .len => 3 | .short => 4) ∧
    (statusWord s).getLsbD 11 = false ∧
    BitVec.extractLsb' 12 4 (statusWord s) =
      (match s.operrc with
        | .none => 0 | .illop => 1 | .badreg => 2 | .txbusy => 3 | .index => 4 | .txrange => 5) ∧
    exec (.rdreg 0x00) s = .next (afterAccept (statusWord s) s) ∧
    ∀ v, exec (.wrreg 0x00 v) s = .next (afterRefusal .badreg s)

/-- R160. -/
def Obligations.NopReturnsAndChangesNothing : Prop :=
  Selects 0x00 (fun _ _ => .nop) ∧ decodeCommand 0x00000000 = .ok .nop ∧
  ∀ s : State, exec .nop s = .next (afterAccept 0 s)

/-- R161: every implemented register reads its value, zero-extended; every other number is
refused. -/
def Obligations.RdregReadsTheNumberedRegister : Prop :=
  Selects 0x01 (fun _ b => .rdreg b) ∧
  ∀ s : State,
    exec (.rdreg 0x00) s = .next (afterAccept (statusWord s) s) ∧
    exec (.rdreg 0x01) s = .next (afterAccept (BitVec.setWidth 16 s.txtype) s) ∧
    exec (.rdreg 0x02) s = .next (afterAccept s.txn s) ∧
    exec (.rdreg 0x03) s = .next (afterAccept s.txpos s) ∧
    exec (.rdreg 0x04) s = .next (afterAccept s.txcs s) ∧
    exec (.rdreg 0x05) s = .next (afterAccept (BitVec.setWidth 16 s.rxtype) s) ∧
    exec (.rdreg 0x06) s = .next (afterAccept s.rxlen s) ∧
    exec (.rdreg 0x07) s = .next (afterAccept s.rxn s) ∧
    exec (.rdreg 0x08) s = .next (afterAccept s.rxpos s) ∧
    exec (.rdreg 0x09) s = .next (afterAccept s.rxcs s) ∧
    exec (.rdreg 0x0A) s = .next (afterAccept s.rxck s) ∧
    exec (.rdreg 0x0B) s = .next (afterAccept s.csacc s) ∧
    ∀ r : Byte, 0x0C ≤ r.toNat → exec (.rdreg r) s = .next (afterRefusal .badreg s)

/-- R162: `TXTYPE` takes the low byte and `TXN` the whole value while no frame is being emitted;
`TXBUSY` refuses the two, `BADREG` every other number first. -/
def Obligations.WrregWritesTxtypeOrTxn : Prop :=
  Selects 0x02 (fun a b => .wrreg b a) ∧
  ∀ (s : State) (v : Half),
    (s.txbusy = false →
      exec (.wrreg 0x01 v) s = .next (afterAccept 0 { s with txtype := BitVec.extractLsb' 0 8 v }) ∧
      exec (.wrreg 0x02 v) s = .next (afterAccept 0 { s with txn := v })) ∧
    (s.txbusy = true →
      exec (.wrreg 0x01 v) s = .next (afterRefusal .txbusy s) ∧
      exec (.wrreg 0x02 v) s = .next (afterRefusal .txbusy s)) ∧
    ∀ r : Byte, r ≠ 0x01 → r ≠ 0x02 → exec (.wrreg r v) s = .next (afterRefusal .badreg s)

/-- R163. -/
def Obligations.ClrerrClearsTheRefusalRecord : Prop :=
  Selects 0x0B (fun _ _ => .clrerr) ∧
  ∀ s : State, exec .clrerr s = .next (afterAccept 0 { s with operr := false, operrc := .none })

/-- R176, R87: whatever command word is refused, the refusal record is the only state it touches, the first cause is
kept, and `result(0, 0)` is returned; an accepted one returns `ok = 1` and leaves the record, but for `CLRERR`. -/
def Obligations.RefusedOperationsHaveNoOtherEffect : Prop :=
  ∀ (cw : CommandWord) (s : State), ∃ t r, runEvent (.host cw) s = .next t ∧ t.results = s.results ++ [r] ∧
    (r.ok = false → r.val = 0 ∧ ∃ c, c ≠ .none ∧ t = afterRefusal c s) ∧
    (r.ok = true → Event.hostDoes .clrerr (.host cw) ∨ (t.operr = s.operr ∧ t.operrc = s.operrc))

/-- R177 to R182: the cause that is recorded, for every command word and every state with an empty record, in the order
`ILLOP`, `BADREG`, `TXBUSY`, `INDEX`, `TXRANGE`. -/
def Obligations.EachRefusalCauseHasItsCondition : Prop :=
  ∀ (cw : CommandWord) (s t : State), s.operr = false → s.operrc = .none → runEvent (.host cw) s = .next t →
    (t.operrc = .illop ↔ 0x0C ≤ (BitVec.extractLsb' 24 8 cw).toNat) ∧
    (t.operrc = .badreg ↔
      (∃ r, decodeCommand cw = .ok (.rdreg r) ∧ 0x0C ≤ r.toNat) ∨
      (∃ r v, decodeCommand cw = .ok (.wrreg r v) ∧ r ≠ 0x01 ∧ r ≠ 0x02)) ∧
    (t.operrc = .txbusy ↔ s.txbusy = true ∧
      ((∃ r v, decodeCommand cw = .ok (.wrreg r v) ∧ (r = 0x01 ∨ r = 0x02)) ∨
        (∃ i b, decodeCommand cw = .ok (.txwr i b)) ∨ decodeCommand cw = .ok .encgo)) ∧
    (t.operrc = .index ↔
      (s.txbusy = false ∧ ∃ i b, decodeCommand cw = .ok (.txwr i b) ∧ s.cfg.maxp ≤ i.toNat) ∨
      (∃ i, decodeCommand cw = .ok (.rxrd i) ∧ s.cfg.maxp ≤ i.toNat) ∨
      (∃ i, decodeCommand cw = .ok (.rxrdw i) ∧ s.cfg.maxp ≤ i.toNat + 1)) ∧
    (t.operrc = .txrange ↔ s.txbusy = false ∧ decodeCommand cw = .ok .encgo ∧
      (s.txn = 0 ∨ s.cfg.maxp < s.txn.toNat)) ∧
    (t.operr = true ↔ t.operrc ≠ .none)

/-! ### The checksum -/

/-- R102, R103, R104: the stand-alone unit, with the sum as a number modulo 65536. -/
def Obligations.StandAloneChecksumOperations : Prop :=
  Selects 0x08 (fun _ _ => .csclr) ∧ Selects 0x09 (fun _ b => .csadd b) ∧ Selects 0x0A (fun a _ => .cscmp a) ∧
  ∀ s : State,
    exec .csclr s = .next (afterAccept 0 { s with csacc := 0 }) ∧
    (∀ b : Byte, ∃ acc : Half, acc.toNat = (s.csacc.toNat + b.toNat) % 65536 ∧
      exec (.csadd b) s = .next (afterAccept 0 { s with csacc := acc })) ∧
    (∀ v : Half, v = s.csacc → exec (.cscmp v) s = .next (afterAccept 1 s)) ∧
    (∀ v : Half, v ≠ s.csacc → exec (.cscmp v) s = .next (afterAccept 0 s))

/-- R100, R101: `csum16` is the sum modulo 65536; it can be accumulated byte by byte and piece by piece, does not
depend on the order, and detects every change of a single byte. -/
def Obligations.ChecksumLaws : Prop :=
  (∀ bs : List Byte, (csum16 bs).toNat = (bs.map BitVec.toNat).sum % 65536) ∧
  (∀ bs : List Byte, csum16 bs = bs.foldl addByte 0) ∧
  (∀ xs ys : List Byte, csum16 (xs ++ ys) = csum16 xs + csum16 ys) ∧
  (∀ xs ys : List Byte, xs.Perm ys → csum16 xs = csum16 ys) ∧
  (∀ (xs ys : List Byte) (b b' : Byte), b ≠ b' → csum16 (xs ++ b :: ys) ≠ csum16 (xs ++ b' :: ys))

/-! ### The encoder -/

/-- R111, R78: an accepted `TXWR` writes its one cell and nothing else; the two refusals in their order. -/
def Obligations.TxwrWritesItsCell : Prop :=
  Selects 0x03 (fun a b => .txwr a b) ∧
  ∀ (s : State) (i : Half) (b : Byte),
    (s.txbusy = false → i.toNat < s.cfg.maxp →
      ∃ t, exec (.txwr i b) s = .next t ∧ txCell t i.toNat = b ∧
        (∀ j, j ≠ i.toNat → txCell t j = txCell s j) ∧ t = afterAccept 0 { s with txbuf := t.txbuf }) ∧
    (s.txbusy = true → exec (.txwr i b) s = .next (afterRefusal .txbusy s)) ∧
    (s.txbusy = false → s.cfg.maxp ≤ i.toNat → exec (.txwr i b) s = .next (afterRefusal .index s))

/-- R113: an accepted `ENCGO` starts the frame and emits nothing; the two refusals in their order. -/
def Obligations.EncgoStartsAFrame : Prop :=
  Selects 0x06 (fun _ _ => .encgo) ∧
  ∀ s : State,
    (s.txbusy = false → 1 ≤ s.txn.toNat → s.txn.toNat ≤ s.cfg.maxp →
      exec .encgo s = .next (afterAccept 0 { s with txbusy := true, txpos := 0, txcs := 0 })) ∧
    (s.txbusy = true → exec .encgo s = .next (afterRefusal .txbusy s)) ∧
    (s.txbusy = false → (s.txn = 0 ∨ s.cfg.maxp < s.txn.toNat) → exec .encgo s = .next (afterRefusal .txrange s))

/-- R114 to R120: the byte that each `EMIT` emits and the state it writes, by the frame offset `TXPOS`. -/
def Obligations.EmitSendsTheByteOfEachOffset : Prop :=
  ∀ s : State, TxInv s → s.txbusy = true →
    let sent (o : Byte) : State := { s with txout := s.txout ++ [o], txpos := s.txpos + 1 }
    let summed (o : Byte) : State :=
      { s with txout := s.txout ++ [o], txpos := s.txpos + 1, txcs := s.txcs + BitVec.setWidth 16 o }
    let next (t : State) : Prop := runEvent .enc s = .next t
    let p := s.txpos.toNat
    let n := s.txn.toNat
    (p = 0 → next (sent (BitVec.extractLsb' 8 8 s.cfg.hdr))) ∧
    (p = 1 → next (sent (BitVec.extractLsb' 0 8 s.cfg.hdr))) ∧
    (2 ≤ p → p ≤ 5 → next (sent (BitVec.extractLsb' (8 * (5 - p)) 8 s.cfg.addr))) ∧
    (p = 6 → next (summed s.txtype)) ∧
    (p = 7 → next (summed (BitVec.extractLsb' 8 8 (s.txn + 2)))) ∧
    (p = 8 → next (summed (BitVec.extractLsb' 0 8 (s.txn + 2)))) ∧
    (9 ≤ p → p ≤ 8 + n → next (summed (txCell s (p - 9)))) ∧
    (p = 9 + n → next (sent (BitVec.extractLsb' 8 8 s.txcs))) ∧
    (p = 10 + n → next { sent (BitVec.extractLsb' 0 8 s.txcs) with txbusy := false })

/-- R70, R123: while a frame is being emitted no host operation and no receive symbol changes the transmit side. -/
def Obligations.AStartedFrameCannotBeDisturbed : Prop :=
  ∀ (s t : State) (e : Event), s.txbusy = true → Event.isEnc e = false → Event.isReset e = false →
    runEvent e s = .next t → SameTx s t

/-- R121: from an accepted `ENCGO`, whatever host operations and receive symbols are interleaved and without a `RESET`,
after `k` of the encoder's turns exactly the first `k` bytes of the frame have been emitted and `TXBUSY` is 1 for
`k < 11 + n`; the turn number `11 + n` completes the frame. -/
def Obligations.AnEncodedFrameIsEmittedWhole : Prop :=
  ∀ (s s₀ : State) (es rest : List Event), MachineInv s → s.txbusy = false → 1 ≤ s.txn.toNat → s.txn.toNat ≤ s.cfg.maxp →
    exec .encgo s = .next s₀ → (∀ e ∈ es, Event.isReset e = false) →
    (s.pending = es ++ rest → es.countP Event.isEnc ≤ 10 + s.txn.toNat →
      ∃ t, runSteps es.length s₀ = .next t ∧ t.txbusy = true ∧
        t.txpos.toNat = es.countP Event.isEnc ∧
        t.txout = s.txout ++ (frame s.cfg s.txtype (payload s)).take (es.countP Event.isEnc)) ∧
    (s.pending = es ++ .enc :: rest → es.countP Event.isEnc = 10 + s.txn.toNat →
      ∃ t, runSteps (es.length + 1) s₀ = .next t ∧ t.txbusy = false ∧
        t.txpos.toNat = 11 + s.txn.toNat ∧ t.txout = s.txout ++ frame s.cfg s.txtype (payload s) ∧
        t.txcs = csum16 (summedBytes s.txtype (payload s)) ∧ t.txtype = s.txtype ∧ t.txn = s.txn ∧
        (∀ i, txCell t i = txCell s i) ∧ t.pending = rest)

/-- R221 (weak fairness; that the encoder moves once nothing is pending is the model's choice, log entry 5): a started
frame completes. -/
def Obligations.AStartedFrameCompletes : Prop :=
  ∀ s : State, MachineInv s → s.txbusy = true → s.pending = [] →
    ∃ t, runSteps (11 + s.txn.toNat - s.txpos.toNat) s = .next t ∧ t.txbusy = false ∧
      t.txpos.toNat = 11 + s.txn.toNat ∧ t.txout.length = s.txout.length + (11 + s.txn.toNat - s.txpos.toNat) ∧
      s.txout <+: t.txout ∧ SameRx s t ∧ SameHostSide s t

/-- R47: the record of the stream only grows, by at most one byte a step, and only while `TXBUSY = 1`. -/
def Obligations.TheTransmitStreamOnlyGrows : Prop :=
  ∀ s t : State, step s = .next t →
    t.txout = s.txout ∨ (s.txbusy = true ∧ ∃ o, t.txout = s.txout ++ [o])

/-! ### The decoder -/

/-- R131: `DECGO` arms the decoder in every state and touches neither buffer, the refusal record nor the transmit
side. -/
def Obligations.DecgoArmsTheDecoder : Prop :=
  Selects 0x07 (fun _ _ => .decgo) ∧
  ∀ s : State, exec .decgo s = .next (afterAccept 0
    { s with
      rxst := .run, rxpos := 0, rxcs := 0, rxtype := 0, rxlen := 0, rxn := 0, rxck := 0
      ckpres := false, csok := false, trail := false, rxerr := .none })

/-- R134, R135, R172: a header or address byte is accepted if it equals the expected byte; otherwise the decoder fails
with `HDR` or `ADDR` and `RXPOS` stays. Neither stored nor summed. -/
def Obligations.HeaderAndAddressBytesAreCompared : Prop :=
  ∀ (s : State) (b : Byte), s.rxst = .run →
    let accepted : Host.Outcome State Fault Refusal := .next { s with rxpos := s.rxpos + 1 }
    let failed (code : RxError) : Host.Outcome State Fault Refusal := .next { s with rxst := .err, rxerr := code }
    (s.rxpos = 0 → exec (.rxb b) s =
      if b = BitVec.extractLsb' 8 8 s.cfg.hdr then accepted else failed .hdr) ∧
    (s.rxpos = 1 → exec (.rxb b) s =
      if b = BitVec.extractLsb' 0 8 s.cfg.hdr then accepted else failed .hdr) ∧
    (∀ p : Nat, 2 ≤ p → p ≤ 5 → s.rxpos.toNat = p → exec (.rxb b) s =
      if b = BitVec.extractLsb' (8 * (5 - p)) 8 s.cfg.addr then accepted else failed .addr)

/-- R136, R137: the package type and the length are latched and summed; an illegal length fails with `LEN` and leaves
`RXN`. -/
def Obligations.TypeAndLengthBytesAreLatched : Prop :=
  ∀ (s : State) (b : Byte), s.rxst = .run →
    let taken : State := { s with rxpos := s.rxpos + 1, rxcs := s.rxcs + BitVec.setWidth 16 b }
    (s.rxpos = 6 → exec (.rxb b) s = .next { taken with rxtype := b }) ∧
    (s.rxpos = 7 → ∃ len : Half, BitVec.extractLsb' 8 8 len = b ∧
      BitVec.extractLsb' 0 8 len = BitVec.extractLsb' 0 8 s.rxlen ∧
      exec (.rxb b) s = .next { taken with rxlen := len }) ∧
    (s.rxpos = 8 → ∃ len : Half, BitVec.extractLsb' 0 8 len = b ∧
      BitVec.extractLsb' 8 8 len = BitVec.extractLsb' 8 8 s.rxlen ∧
      (len.toNat < 3 ∨ s.cfg.maxp < len.toNat - 2 →
        exec (.rxb b) s = .next { taken with rxlen := len, rxst := .err, rxerr := .len }) ∧
      (3 ≤ len.toNat → len.toNat - 2 ≤ s.cfg.maxp → ∃ n : Half, n.toNat = len.toNat - 2 ∧
        exec (.rxb b) s = .next { taken with rxlen := len, rxn := n }))

/-- R138: a payload byte goes to its cell, in arrival order, and is summed; every other cell stays. -/
def Obligations.PayloadBytesAreStoredInOrder : Prop :=
  ∀ (s : State) (b : Byte), RxInv s → s.rxst = .run → 9 ≤ s.rxpos.toNat → s.rxpos.toNat ≤ 8 + s.rxn.toNat →
    ∃ t, exec (.rxb b) s = .next t ∧ rxCell t (s.rxpos.toNat - 9) = b ∧
      (∀ j, j ≠ s.rxpos.toNat - 9 → rxCell t j = rxCell s j) ∧
      t = { s with rxbuf := t.rxbuf, rxpos := s.rxpos + 1, rxcs := s.rxcs + BitVec.setWidth 16 b }

/-- R140, R141, and R142's comparison: the checksum bytes are latched, not summed; the second completes the frame whatever it says, and
`CSOK` is the comparison. -/
def Obligations.ChecksumBytesCompleteTheFrame : Prop :=
  ∀ (s : State) (b : Byte), RxInv s → s.rxst = .run → 9 ≤ s.rxpos.toNat →
    (s.rxpos.toNat = 9 + s.rxn.toNat → ∃ ck : Half, BitVec.extractLsb' 8 8 ck = b ∧
      BitVec.extractLsb' 0 8 ck = BitVec.extractLsb' 0 8 s.rxck ∧
      exec (.rxb b) s = .next { s with rxpos := s.rxpos + 1, rxck := ck }) ∧
    (s.rxpos.toNat = 10 + s.rxn.toNat → ∃ ck : Half, BitVec.extractLsb' 0 8 ck = b ∧
      BitVec.extractLsb' 8 8 ck = BitVec.extractLsb' 8 8 s.rxck ∧
      exec (.rxb b) s = .next
        { s with rxpos := s.rxpos + 1, rxck := ck, ckpres := true, csok := decide (s.rxcs = ck), rxst := .done })

/-- R143, R145, and R144's first sentence: outside `RUN` a byte is discarded; in `DONE` it sets `TRAIL`. -/
def Obligations.BytesOutsideRunAreDiscarded : Prop :=
  ∀ (s : State) (b : Byte),
    (s.rxst = .done → exec (.rxb b) s = .next { s with trail := true }) ∧
    (s.rxst = .err → exec (.rxb b) s = .next s) ∧
    (s.rxst = .idle → exec (.rxb b) s = .next s)

/-- R132, R133: a received byte is never refused: from a state that meets the invariant it always gives a next state,
which returns nothing and leaves the transmit side and the host's side. -/
def Obligations.EveryReceivedByteIsTaken : Prop :=
  ∀ (s : State) (b : Byte), MachineInv s →
    ∃ t, exec (.rxb b) s = .next t ∧ SameTx s t ∧ SameHostSide s t ∧ t.pending = s.pending

/-- R147, R148, R149: the end of the received data. -/
def Obligations.RxeEndsTheReception : Prop :=
  ∀ s : State,
    (s.rxst = .run → 9 + s.rxn.toNat ≤ s.rxpos.toNat → exec .rxe s = .next { s with rxst := .done }) ∧
    (s.rxst = .run → s.rxpos.toNat < 9 + s.rxn.toNat →
      exec .rxe s = .next { s with rxst := .err, rxerr := .short }) ∧
    (s.rxst ≠ .run → exec .rxe s = .next s)

/-- R152, R153, R62, R78: the two buffer reads, in every decoder state; the word is big-endian. -/
def Obligations.BufferReadsReturnTheirCells : Prop :=
  Selects 0x04 (fun a _ => .rxrd a) ∧ Selects 0x05 (fun a _ => .rxrdw a) ∧
  ∀ (s : State) (i : Half),
    (i.toNat < s.cfg.maxp → ∃ v : Half, v.toNat = (rxCell s i.toNat).toNat ∧
      exec (.rxrd i) s = .next (afterAccept v s)) ∧
    (s.cfg.maxp ≤ i.toNat → exec (.rxrd i) s = .next (afterRefusal .index s)) ∧
    (i.toNat + 1 < s.cfg.maxp → ∃ v : Half,
      v.toNat = (rxCell s i.toNat).toNat * 256 + (rxCell s (i.toNat + 1)).toNat ∧
      exec (.rxrdw i) s = .next (afterAccept v s)) ∧
    (s.cfg.maxp ≤ i.toNat + 1 → exec (.rxrdw i) s = .next (afterRefusal .index s))

/-- R156: the transitions of `RXST`, complete, with the events that make them. -/
def Obligations.ReceiveTransitionsAreComplete : Prop :=
  ∀ (s t : State) (e : Event), MachineInv s → runEvent e s = .next t →
    (t.rxst = .idle → s.rxst = .idle ∨ Event.isReset e = true) ∧
    (s.rxst ≠ .run → t.rxst = .run → Event.hostDoes .decgo e) ∧
    (s.rxst ≠ .done → t.rxst = .done → s.rxst = .run ∧ 9 + s.rxn.toNat ≤ s.rxpos.toNat ∧
      ((∃ b, Event.received e = some (.rxb b) ∧ s.rxpos.toNat = 10 + s.rxn.toNat) ∨
        Event.received e = some .rxe)) ∧
    (s.rxst ≠ .err → t.rxst = .err → s.rxst = .run ∧
      ((∃ b, Event.received e = some (.rxb b) ∧ s.rxpos.toNat ≤ 5 ∧ b ≠ prefixByte s.cfg s.rxpos.toNat) ∨
        (∃ b, Event.received e = some (.rxb b) ∧ s.rxpos.toNat = 8 ∧
          ((be16 (hi8 s.rxlen) b).toNat < 3 ∨ s.cfg.maxp + 2 < (be16 (hi8 s.rxlen) b).toNat)) ∨
        (Event.received e = some .rxe ∧ s.rxpos.toNat < 9 + s.rxn.toNat)))

/-- R108, R141, R142: a checksum mismatch is never a failure: two receptions that differ only in the checksum byte
end alike but for `RXCK` and `CSOK`. -/
def Obligations.TheVerdictDecidesNothingElse : Prop :=
  ∀ (s t u : State) (b b' : Byte), s.rxst = .run → 9 ≤ s.rxpos.toNat → s.rxpos.toNat = 10 + s.rxn.toNat →
    exec (.rxb b) s = .next t → exec (.rxb b') s = .next u →
    t.rxst = .done ∧ t.rxerr = s.rxerr ∧ u = { t with rxck := u.rxck, csok := u.csok } ∧
    (b ≠ b' → ¬ (t.csok = true ∧ u.csok = true))

/-- R150: the whole decode, for every byte sequence, whatever host operations and encoder turns are interleaved (except
`DECGO` and `RESET`); the same before the `RXE` where the bytes alone decide. -/
def Obligations.AWholeDecodeEndsByItsFirstCase : Prop :=
  ∀ (s s₀ : State) (es rest : List Event) (bs : List Byte), MachineInv s → exec .decgo s = .next s₀ →
    s.pending = es ++ rest → (∀ e ∈ es, Event.keepsReception e = true) →
    (es.filterMap Event.received = bs.map Instr.rxb ++ [.rxe] ∨
      (es.filterMap Event.received = bs.map Instr.rxb ∧ DecidedEarly s.cfg bs)) →
    ∃ t, runSteps es.length s₀ = .next t ∧ t.pending = rest ∧ DecodeOutcome s.cfg bs t

/-- R151: the bytes of one complete emitted frame, fed to an armed decoder of the same parameters, give back its
package type and payload with a good checksum, and the sums of both sides are equal. -/
def Obligations.DecodeOfAnEmittedFrameRecoversIt : Prop :=
  ∀ (s s₀ s₁ v v₀ : State) (es rest fs rest' : List Event),
    MachineInv s → s.txbusy = false → 1 ≤ s.txn.toNat → s.txn.toNat ≤ s.cfg.maxp → exec .encgo s = .next s₀ →
    s.pending = es ++ .enc :: rest → (∀ e ∈ es, Event.isReset e = false) →
    es.countP Event.isEnc = 10 + s.txn.toNat → runSteps (es.length + 1) s₀ = .next s₁ →
    MachineInv v → v.cfg = s.cfg → exec .decgo v = .next v₀ → v.pending = fs ++ rest' →
    (∀ e ∈ fs, Event.keepsReception e = true) →
    fs.filterMap Event.received = (s₁.txout.drop s.txout.length).map Instr.rxb ++ [.rxe] →
    ∃ t, runSteps fs.length v₀ = .next t ∧
      t.rxst = .done ∧ t.rxtype = s.txtype ∧ t.rxn = s.txn ∧
      (∀ j, j < s.txn.toNat → rxCell t j = txCell s j) ∧
      t.ckpres = true ∧ t.csok = true ∧ t.trail = false ∧ t.rxck = t.rxcs ∧ t.rxcs = s₁.txcs

/-! ### Whole-machine rules -/

/-- R51, with R200 for the cells at a power-on: which event writes which state; an event not listed for an item never
writes it. The parameters and the list of pending events are written by none. -/
def Obligations.EachItemIsWrittenOnlyByItsEvents : Prop :=
  ∀ (s t : State) (e : Event), runEvent e s = .next t →
    (t.txtype ≠ s.txtype ∨ t.txn ≠ s.txn → (∃ r v, Event.hostDoes (.wrreg r v) e) ∨ Event.isReset e = true) ∧
    (∀ j, txCell t j ≠ txCell s j → (∃ i b, Event.hostDoes (.txwr i b) e ∧ i.toNat = j) ∨ e = .reset true) ∧
    (t.txbusy ≠ s.txbusy ∨ t.txpos ≠ s.txpos ∨ t.txcs ≠ s.txcs →
      Event.hostDoes .encgo e ∨ e = .enc ∨ Event.isReset e = true) ∧
    (t.txout ≠ s.txout → e = .enc) ∧
    (¬ SameRxRegs s t → Event.hostDoes .decgo e ∨ (∃ rs, e = .rx rs) ∨ Event.isReset e = true) ∧
    (∀ j, rxCell t j ≠ rxCell s j → (∃ b, Event.received e = some (.rxb b)) ∨ e = .reset true) ∧
    (t.csacc ≠ s.csacc → Event.hostDoes .csclr e ∨ (∃ b, Event.hostDoes (.csadd b) e) ∨ Event.isReset e = true) ∧
    (t.operr ≠ s.operr ∨ t.operrc ≠ s.operrc →
      ((∃ cw, e = .host cw) ∧ t.results = s.results ++ [{ ok := false, val := 0 }]) ∨
        Event.hostDoes .clrerr e ∨ Event.isReset e = true) ∧
    (t.results ≠ s.results → ∃ cw, e = .host cw) ∧
    t.cfg = s.cfg ∧ t.pending = s.pending

/-- R78, R111, R138: the one cell an instruction can store to, computed as its meaning computes it; every other cell of
either buffer reads as before. -/
def Obligations.OnlyTheAddressedCellChanges : Prop :=
  ∀ (i : Instr) (s t : State), exec i s = .next t →
    (∀ j, (∀ idx b, i = .txwr idx b → s.txbusy = false → cellExists s idx.toNat = true → j ≠ idx.toNat) →
      txCell t j = txCell s j) ∧
    (∀ j, (∀ b, i = .rxb b → s.rxst = .run → 9 ≤ s.rxpos.toNat → s.rxpos.toNat ≤ 8 + s.rxn.toNat →
        j ≠ s.rxpos.toNat - 9) →
      rxCell t j = rxCell s j)

/-- R67: an accepted read changes no state and is idempotent: the same read again returns the same result. -/
def Obligations.ReadsHaveNoSideEffect : Prop :=
  ∀ (i : Instr) (s t u : State) (v w : HostResult),
    ((∃ r, i = .rdreg r) ∨ (∃ k, i = .rxrd k) ∨ (∃ k, i = .rxrdw k) ∨ (∃ k, i = .cscmp k)) →
    exec i s = .next t → t.results = s.results ++ [v] → v.ok = true →
    exec i t = .next u → u.results = t.results ++ [w] →
    t = { s with results := t.results } ∧ w = v

/-- R71: the transmit and the receive side share no state, so an `EMIT` and a receive symbol commute. -/
def Obligations.EmitAndReceiveCommute : Prop :=
  ∀ (s t u : State) (rs : Symbol), MachineInv s → runEvent .enc s = .next t → runEvent (.rx rs) t = .next u →
    ∃ t', runEvent (.rx rs) s = .next t' ∧ runEvent .enc t' = .next u

/-- R172, R186, R170: a decode failure comes only from a receive symbol in `RUN`, records how far the frame got
(R173 to R175), sets no refusal, returns nothing and emits nothing. -/
def Obligations.ADecodeFailureRecordsItsCause : Prop :=
  ∀ (s t : State) (e : Event), MachineInv s → s.rxst ≠ .err → runEvent e s = .next t → t.rxst = .err →
    s.rxst = .run ∧ (∃ rs, e = .rx rs) ∧ SameTx s t ∧ SameHostSide s t ∧ (∀ j, rxCell t j = rxCell s j) ∧
    t.trail = s.trail ∧ t.ckpres = s.ckpres ∧ t.csok = s.csok ∧
    (t.rxerr = .hdr ∧ t.rxpos = s.rxpos ∧ s.rxpos.toNat ≤ 1 ∨
      t.rxerr = .addr ∧ t.rxpos = s.rxpos ∧ 2 ≤ s.rxpos.toNat ∧ s.rxpos.toNat ≤ 5 ∨
      t.rxerr = .len ∧ t.rxpos.toNat = 9 ∧ t.rxn = 0 ∧
        (t.rxlen.toNat < 3 ∨ s.cfg.maxp + 2 < t.rxlen.toNat) ∨
      t.rxerr = .short ∧ t.rxpos = s.rxpos ∧ s.rxpos.toNat < 9 + s.rxn.toNat)
end

