-- ==== Sys2Proof/Laws/Bytes.lean ====
section
/-! SUPPORT. Byte order and the checksum arithmetic as numbers. -/

namespace Sys2Proof.Machine

@[simp] theorem hi8_toNat (v : Half) : (hi8 v).toNat = v.toNat / 256 := by
  have := v.isLt
  simp only [hi8, BitVec.extractLsb'_toNat, Nat.shiftRight_eq_div_pow]
  omega

@[simp] theorem lo8_toNat (v : Half) : (lo8 v).toNat = v.toNat % 256 := by
  simp [lo8, BitVec.extractLsb'_toNat]

/-- `be16(b0, b1) = b0 * 256 + b1` (R9). -/
theorem be16_toNat (a b : Byte) : (be16 a b).toNat = a.toNat * 256 + b.toNat := by
  have hb := b.isLt
  have h := Nat.two_pow_add_eq_or_of_lt hb a.toNat
  simp only [be16, BitVec.toNat_append, Nat.shiftLeft_eq]
  rw [Nat.mul_comm a.toNat (2 ^ 8), ← h]

@[simp] theorem hi8_be16 (a b : Byte) : hi8 (be16 a b) = a := by
  apply BitVec.eq_of_toNat_eq
  have := a.isLt; have := b.isLt
  rw [hi8_toNat, be16_toNat]
  omega

@[simp] theorem lo8_be16 (a b : Byte) : lo8 (be16 a b) = b := by
  apply BitVec.eq_of_toNat_eq
  have := a.isLt; have := b.isLt
  rw [lo8_toNat, be16_toNat]
  omega

/-- `be16` puts back what `hi8` and `lo8` take apart. -/
@[simp] theorem be16_hi8_lo8 (v : Half) : be16 (hi8 v) (lo8 v) = v := by
  apply BitVec.eq_of_toNat_eq
  rw [be16_toNat, hi8_toNat, lo8_toNat]
  omega

@[simp] theorem zext16_toNat (b : Byte) : (zext16 b).toNat = b.toNat := by
  have := b.isLt
  simp only [zext16, BitVec.toNat_setWidth]
  omega

/-- The accumulator's law (R101): the carry out of bit 15 is discarded. -/
theorem addByte_toNat (acc : Half) (b : Byte) : (addByte acc b).toNat = (acc.toNat + b.toNat) % 65536 := by
  simp [addByte, BitVec.toNat_add]

@[simp] theorem csum16_nil : csum16 [] = 0 := rfl

/-- `csum16` can be accumulated a piece at a time (R101). -/
theorem csum16_append (xs ys : List Byte) : csum16 (xs ++ ys) = csum16 xs + csum16 ys := by
  simp [csum16, BitVec.ofNat_add]

@[simp] theorem csum16_singleton (b : Byte) : csum16 [b] = zext16 b := by
  apply BitVec.eq_of_toNat_eq
  have := b.isLt
  simp only [csum16, List.map_cons, List.map_nil, List.sum_cons, List.sum_nil, BitVec.toNat_ofNat, zext16_toNat]
  omega

/-- `csum16` can be accumulated a byte at a time (R101). -/
theorem csum16_concat (xs : List Byte) (b : Byte) : csum16 (xs ++ [b]) = addByte (csum16 xs) b := by
  simp [csum16_append, addByte]

theorem csum16_toNat (bs : List Byte) : (csum16 bs).toNat = (bs.map BitVec.toNat).sum % 65536 := by
  simp [csum16]

end Sys2Proof.Machine
end

