-- ==== Sys2Proof/Laws/State.lean ====
section
/-! SUPPORT. One lemma per field per update of the state, each true by `rfl`, so that no proof unfolds a record update. -/

namespace Sys2Proof.Machine

variable (s : State)

/-! ### `giveResult` -/

@[simp] theorem giveResult_cfg (ok : Bool) (v : Half) : (giveResult ok v s).cfg = s.cfg := rfl
@[simp] theorem giveResult_txtype (ok : Bool) (v : Half) : (giveResult ok v s).txtype = s.txtype := rfl
@[simp] theorem giveResult_txn (ok : Bool) (v : Half) : (giveResult ok v s).txn = s.txn := rfl
@[simp] theorem giveResult_txpos (ok : Bool) (v : Half) : (giveResult ok v s).txpos = s.txpos := rfl
@[simp] theorem giveResult_txcs (ok : Bool) (v : Half) : (giveResult ok v s).txcs = s.txcs := rfl
@[simp] theorem giveResult_txbusy (ok : Bool) (v : Half) : (giveResult ok v s).txbusy = s.txbusy := rfl
@[simp] theorem giveResult_txbuf (ok : Bool) (v : Half) : (giveResult ok v s).txbuf = s.txbuf := rfl
@[simp] theorem giveResult_txout (ok : Bool) (v : Half) : (giveResult ok v s).txout = s.txout := rfl
@[simp] theorem giveResult_rxst (ok : Bool) (v : Half) : (giveResult ok v s).rxst = s.rxst := rfl
@[simp] theorem giveResult_rxtype (ok : Bool) (v : Half) : (giveResult ok v s).rxtype = s.rxtype := rfl
@[simp] theorem giveResult_rxlen (ok : Bool) (v : Half) : (giveResult ok v s).rxlen = s.rxlen := rfl
@[simp] theorem giveResult_rxn (ok : Bool) (v : Half) : (giveResult ok v s).rxn = s.rxn := rfl
@[simp] theorem giveResult_rxpos (ok : Bool) (v : Half) : (giveResult ok v s).rxpos = s.rxpos := rfl
@[simp] theorem giveResult_rxcs (ok : Bool) (v : Half) : (giveResult ok v s).rxcs = s.rxcs := rfl
@[simp] theorem giveResult_rxck (ok : Bool) (v : Half) : (giveResult ok v s).rxck = s.rxck := rfl
@[simp] theorem giveResult_ckpres (ok : Bool) (v : Half) : (giveResult ok v s).ckpres = s.ckpres := rfl
@[simp] theorem giveResult_csok (ok : Bool) (v : Half) : (giveResult ok v s).csok = s.csok := rfl
@[simp] theorem giveResult_trail (ok : Bool) (v : Half) : (giveResult ok v s).trail = s.trail := rfl
@[simp] theorem giveResult_rxerr (ok : Bool) (v : Half) : (giveResult ok v s).rxerr = s.rxerr := rfl
@[simp] theorem giveResult_rxbuf (ok : Bool) (v : Half) : (giveResult ok v s).rxbuf = s.rxbuf := rfl
@[simp] theorem giveResult_csacc (ok : Bool) (v : Half) : (giveResult ok v s).csacc = s.csacc := rfl
@[simp] theorem giveResult_operr (ok : Bool) (v : Half) : (giveResult ok v s).operr = s.operr := rfl
@[simp] theorem giveResult_operrc (ok : Bool) (v : Half) : (giveResult ok v s).operrc = s.operrc := rfl
@[simp] theorem giveResult_results (ok : Bool) (v : Half) : (giveResult ok v s).results = s.results ++ [{ ok := ok, val := v }] := rfl
@[simp] theorem giveResult_powerOns (ok : Bool) (v : Half) : (giveResult ok v s).powerOns = s.powerOns := rfl
@[simp] theorem giveResult_pending (ok : Bool) (v : Half) : (giveResult ok v s).pending = s.pending := rfl
@[simp] theorem giveResult_txCell (ok : Bool) (v : Half) (j : Nat) : txCell (giveResult ok v s) j = txCell s j := rfl
@[simp] theorem giveResult_rxCell (ok : Bool) (v : Half) (j : Nat) : rxCell (giveResult ok v s) j = rxCell s j := rfl

/-! ### `clearRefusal` -/

@[simp] theorem clearRefusal_cfg : (clearRefusal s).cfg = s.cfg := rfl
@[simp] theorem clearRefusal_txtype : (clearRefusal s).txtype = s.txtype := rfl
@[simp] theorem clearRefusal_txn : (clearRefusal s).txn = s.txn := rfl
@[simp] theorem clearRefusal_txpos : (clearRefusal s).txpos = s.txpos := rfl
@[simp] theorem clearRefusal_txcs : (clearRefusal s).txcs = s.txcs := rfl
@[simp] theorem clearRefusal_txbusy : (clearRefusal s).txbusy = s.txbusy := rfl
@[simp] theorem clearRefusal_txbuf : (clearRefusal s).txbuf = s.txbuf := rfl
@[simp] theorem clearRefusal_txout : (clearRefusal s).txout = s.txout := rfl
@[simp] theorem clearRefusal_rxst : (clearRefusal s).rxst = s.rxst := rfl
@[simp] theorem clearRefusal_rxtype : (clearRefusal s).rxtype = s.rxtype := rfl
@[simp] theorem clearRefusal_rxlen : (clearRefusal s).rxlen = s.rxlen := rfl
@[simp] theorem clearRefusal_rxn : (clearRefusal s).rxn = s.rxn := rfl
@[simp] theorem clearRefusal_rxpos : (clearRefusal s).rxpos = s.rxpos := rfl
@[simp] theorem clearRefusal_rxcs : (clearRefusal s).rxcs = s.rxcs := rfl
@[simp] theorem clearRefusal_rxck : (clearRefusal s).rxck = s.rxck := rfl
@[simp] theorem clearRefusal_ckpres : (clearRefusal s).ckpres = s.ckpres := rfl
@[simp] theorem clearRefusal_csok : (clearRefusal s).csok = s.csok := rfl
@[simp] theorem clearRefusal_trail : (clearRefusal s).trail = s.trail := rfl
@[simp] theorem clearRefusal_rxerr : (clearRefusal s).rxerr = s.rxerr := rfl
@[simp] theorem clearRefusal_rxbuf : (clearRefusal s).rxbuf = s.rxbuf := rfl
@[simp] theorem clearRefusal_csacc : (clearRefusal s).csacc = s.csacc := rfl
@[simp] theorem clearRefusal_operr : (clearRefusal s).operr = false := rfl
@[simp] theorem clearRefusal_operrc : (clearRefusal s).operrc = .none := rfl
@[simp] theorem clearRefusal_results : (clearRefusal s).results = s.results := rfl
@[simp] theorem clearRefusal_powerOns : (clearRefusal s).powerOns = s.powerOns := rfl
@[simp] theorem clearRefusal_pending : (clearRefusal s).pending = s.pending := rfl
@[simp] theorem clearRefusal_txCell (j : Nat) : txCell (clearRefusal s) j = txCell s j := rfl
@[simp] theorem clearRefusal_rxCell (j : Nat) : rxCell (clearRefusal s) j = rxCell s j := rfl

/-! ### `afterAccept` -/

@[simp] theorem afterAccept_cfg (v : Half) : (afterAccept v s).cfg = s.cfg := rfl
@[simp] theorem afterAccept_txtype (v : Half) : (afterAccept v s).txtype = s.txtype := rfl
@[simp] theorem afterAccept_txn (v : Half) : (afterAccept v s).txn = s.txn := rfl
@[simp] theorem afterAccept_txpos (v : Half) : (afterAccept v s).txpos = s.txpos := rfl
@[simp] theorem afterAccept_txcs (v : Half) : (afterAccept v s).txcs = s.txcs := rfl
@[simp] theorem afterAccept_txbusy (v : Half) : (afterAccept v s).txbusy = s.txbusy := rfl
@[simp] theorem afterAccept_txbuf (v : Half) : (afterAccept v s).txbuf = s.txbuf := rfl
@[simp] theorem afterAccept_txout (v : Half) : (afterAccept v s).txout = s.txout := rfl
@[simp] theorem afterAccept_rxst (v : Half) : (afterAccept v s).rxst = s.rxst := rfl
@[simp] theorem afterAccept_rxtype (v : Half) : (afterAccept v s).rxtype = s.rxtype := rfl
@[simp] theorem afterAccept_rxlen (v : Half) : (afterAccept v s).rxlen = s.rxlen := rfl
@[simp] theorem afterAccept_rxn (v : Half) : (afterAccept v s).rxn = s.rxn := rfl
@[simp] theorem afterAccept_rxpos (v : Half) : (afterAccept v s).rxpos = s.rxpos := rfl
@[simp] theorem afterAccept_rxcs (v : Half) : (afterAccept v s).rxcs = s.rxcs := rfl
@[simp] theorem afterAccept_rxck (v : Half) : (afterAccept v s).rxck = s.rxck := rfl
@[simp] theorem afterAccept_ckpres (v : Half) : (afterAccept v s).ckpres = s.ckpres := rfl
@[simp] theorem afterAccept_csok (v : Half) : (afterAccept v s).csok = s.csok := rfl
@[simp] theorem afterAccept_trail (v : Half) : (afterAccept v s).trail = s.trail := rfl
@[simp] theorem afterAccept_rxerr (v : Half) : (afterAccept v s).rxerr = s.rxerr := rfl
@[simp] theorem afterAccept_rxbuf (v : Half) : (afterAccept v s).rxbuf = s.rxbuf := rfl
@[simp] theorem afterAccept_csacc (v : Half) : (afterAccept v s).csacc = s.csacc := rfl
@[simp] theorem afterAccept_operr (v : Half) : (afterAccept v s).operr = s.operr := rfl
@[simp] theorem afterAccept_operrc (v : Half) : (afterAccept v s).operrc = s.operrc := rfl
@[simp] theorem afterAccept_results (v : Half) : (afterAccept v s).results = s.results ++ [{ ok := true, val := v }] := rfl
@[simp] theorem afterAccept_powerOns (v : Half) : (afterAccept v s).powerOns = s.powerOns := rfl
@[simp] theorem afterAccept_pending (v : Half) : (afterAccept v s).pending = s.pending := rfl
@[simp] theorem afterAccept_txCell (v : Half) (j : Nat) : txCell (afterAccept v s) j = txCell s j := rfl
@[simp] theorem afterAccept_rxCell (v : Half) (j : Nat) : rxCell (afterAccept v s) j = rxCell s j := rfl

/-! ### `afterRefusal` -/

@[simp] theorem afterRefusal_cfg (c : OpError) : (afterRefusal c s).cfg = s.cfg := rfl
@[simp] theorem afterRefusal_txtype (c : OpError) : (afterRefusal c s).txtype = s.txtype := rfl
@[simp] theorem afterRefusal_txn (c : OpError) : (afterRefusal c s).txn = s.txn := rfl
@[simp] theorem afterRefusal_txpos (c : OpError) : (afterRefusal c s).txpos = s.txpos := rfl
@[simp] theorem afterRefusal_txcs (c : OpError) : (afterRefusal c s).txcs = s.txcs := rfl
@[simp] theorem afterRefusal_txbusy (c : OpError) : (afterRefusal c s).txbusy = s.txbusy := rfl
@[simp] theorem afterRefusal_txbuf (c : OpError) : (afterRefusal c s).txbuf = s.txbuf := rfl
@[simp] theorem afterRefusal_txout (c : OpError) : (afterRefusal c s).txout = s.txout := rfl
@[simp] theorem afterRefusal_rxst (c : OpError) : (afterRefusal c s).rxst = s.rxst := rfl
@[simp] theorem afterRefusal_rxtype (c : OpError) : (afterRefusal c s).rxtype = s.rxtype := rfl
@[simp] theorem afterRefusal_rxlen (c : OpError) : (afterRefusal c s).rxlen = s.rxlen := rfl
@[simp] theorem afterRefusal_rxn (c : OpError) : (afterRefusal c s).rxn = s.rxn := rfl
@[simp] theorem afterRefusal_rxpos (c : OpError) : (afterRefusal c s).rxpos = s.rxpos := rfl
@[simp] theorem afterRefusal_rxcs (c : OpError) : (afterRefusal c s).rxcs = s.rxcs := rfl
@[simp] theorem afterRefusal_rxck (c : OpError) : (afterRefusal c s).rxck = s.rxck := rfl
@[simp] theorem afterRefusal_ckpres (c : OpError) : (afterRefusal c s).ckpres = s.ckpres := rfl
@[simp] theorem afterRefusal_csok (c : OpError) : (afterRefusal c s).csok = s.csok := rfl
@[simp] theorem afterRefusal_trail (c : OpError) : (afterRefusal c s).trail = s.trail := rfl
@[simp] theorem afterRefusal_rxerr (c : OpError) : (afterRefusal c s).rxerr = s.rxerr := rfl
@[simp] theorem afterRefusal_rxbuf (c : OpError) : (afterRefusal c s).rxbuf = s.rxbuf := rfl
@[simp] theorem afterRefusal_csacc (c : OpError) : (afterRefusal c s).csacc = s.csacc := rfl
@[simp] theorem afterRefusal_operr (c : OpError) : (afterRefusal c s).operr = true := rfl
@[simp] theorem afterRefusal_operrc (c : OpError) : (afterRefusal c s).operrc = if s.operr then s.operrc else c := rfl
@[simp] theorem afterRefusal_results (c : OpError) : (afterRefusal c s).results = s.results ++ [{ ok := false, val := 0 }] := rfl
@[simp] theorem afterRefusal_powerOns (c : OpError) : (afterRefusal c s).powerOns = s.powerOns := rfl
@[simp] theorem afterRefusal_pending (c : OpError) : (afterRefusal c s).pending = s.pending := rfl
@[simp] theorem afterRefusal_txCell (c : OpError) (j : Nat) : txCell (afterRefusal c s) j = txCell s j := rfl
@[simp] theorem afterRefusal_rxCell (c : OpError) (j : Nat) : rxCell (afterRefusal c s) j = rxCell s j := rfl

/-! ### `rxfail` -/

@[simp] theorem rxfail_cfg (c : RxError) : (rxfail c s).cfg = s.cfg := rfl
@[simp] theorem rxfail_txtype (c : RxError) : (rxfail c s).txtype = s.txtype := rfl
@[simp] theorem rxfail_txn (c : RxError) : (rxfail c s).txn = s.txn := rfl
@[simp] theorem rxfail_txpos (c : RxError) : (rxfail c s).txpos = s.txpos := rfl
@[simp] theorem rxfail_txcs (c : RxError) : (rxfail c s).txcs = s.txcs := rfl
@[simp] theorem rxfail_txbusy (c : RxError) : (rxfail c s).txbusy = s.txbusy := rfl
@[simp] theorem rxfail_txbuf (c : RxError) : (rxfail c s).txbuf = s.txbuf := rfl
@[simp] theorem rxfail_txout (c : RxError) : (rxfail c s).txout = s.txout := rfl
@[simp] theorem rxfail_rxst (c : RxError) : (rxfail c s).rxst = .err := rfl
@[simp] theorem rxfail_rxtype (c : RxError) : (rxfail c s).rxtype = s.rxtype := rfl
@[simp] theorem rxfail_rxlen (c : RxError) : (rxfail c s).rxlen = s.rxlen := rfl
@[simp] theorem rxfail_rxn (c : RxError) : (rxfail c s).rxn = s.rxn := rfl
@[simp] theorem rxfail_rxpos (c : RxError) : (rxfail c s).rxpos = s.rxpos := rfl
@[simp] theorem rxfail_rxcs (c : RxError) : (rxfail c s).rxcs = s.rxcs := rfl
@[simp] theorem rxfail_rxck (c : RxError) : (rxfail c s).rxck = s.rxck := rfl
@[simp] theorem rxfail_ckpres (c : RxError) : (rxfail c s).ckpres = s.ckpres := rfl
@[simp] theorem rxfail_csok (c : RxError) : (rxfail c s).csok = s.csok := rfl
@[simp] theorem rxfail_trail (c : RxError) : (rxfail c s).trail = s.trail := rfl
@[simp] theorem rxfail_rxerr (c : RxError) : (rxfail c s).rxerr = c := rfl
@[simp] theorem rxfail_rxbuf (c : RxError) : (rxfail c s).rxbuf = s.rxbuf := rfl
@[simp] theorem rxfail_csacc (c : RxError) : (rxfail c s).csacc = s.csacc := rfl
@[simp] theorem rxfail_operr (c : RxError) : (rxfail c s).operr = s.operr := rfl
@[simp] theorem rxfail_operrc (c : RxError) : (rxfail c s).operrc = s.operrc := rfl
@[simp] theorem rxfail_results (c : RxError) : (rxfail c s).results = s.results := rfl
@[simp] theorem rxfail_powerOns (c : RxError) : (rxfail c s).powerOns = s.powerOns := rfl
@[simp] theorem rxfail_pending (c : RxError) : (rxfail c s).pending = s.pending := rfl
@[simp] theorem rxfail_txCell (c : RxError) (j : Nat) : txCell (rxfail c s) j = txCell s j := rfl
@[simp] theorem rxfail_rxCell (c : RxError) (j : Nat) : rxCell (rxfail c s) j = rxCell s j := rfl

/-! ### `armDecoder` -/

@[simp] theorem armDecoder_cfg : (armDecoder s).cfg = s.cfg := rfl
@[simp] theorem armDecoder_txtype : (armDecoder s).txtype = s.txtype := rfl
@[simp] theorem armDecoder_txn : (armDecoder s).txn = s.txn := rfl
@[simp] theorem armDecoder_txpos : (armDecoder s).txpos = s.txpos := rfl
@[simp] theorem armDecoder_txcs : (armDecoder s).txcs = s.txcs := rfl
@[simp] theorem armDecoder_txbusy : (armDecoder s).txbusy = s.txbusy := rfl
@[simp] theorem armDecoder_txbuf : (armDecoder s).txbuf = s.txbuf := rfl
@[simp] theorem armDecoder_txout : (armDecoder s).txout = s.txout := rfl
@[simp] theorem armDecoder_rxst : (armDecoder s).rxst = .run := rfl
@[simp] theorem armDecoder_rxtype : (armDecoder s).rxtype = 0 := rfl
@[simp] theorem armDecoder_rxlen : (armDecoder s).rxlen = 0 := rfl
@[simp] theorem armDecoder_rxn : (armDecoder s).rxn = 0 := rfl
@[simp] theorem armDecoder_rxpos : (armDecoder s).rxpos = 0 := rfl
@[simp] theorem armDecoder_rxcs : (armDecoder s).rxcs = 0 := rfl
@[simp] theorem armDecoder_rxck : (armDecoder s).rxck = 0 := rfl
@[simp] theorem armDecoder_ckpres : (armDecoder s).ckpres = false := rfl
@[simp] theorem armDecoder_csok : (armDecoder s).csok = false := rfl
@[simp] theorem armDecoder_trail : (armDecoder s).trail = false := rfl
@[simp] theorem armDecoder_rxerr : (armDecoder s).rxerr = .none := rfl
@[simp] theorem armDecoder_rxbuf : (armDecoder s).rxbuf = s.rxbuf := rfl
@[simp] theorem armDecoder_csacc : (armDecoder s).csacc = s.csacc := rfl
@[simp] theorem armDecoder_operr : (armDecoder s).operr = s.operr := rfl
@[simp] theorem armDecoder_operrc : (armDecoder s).operrc = s.operrc := rfl
@[simp] theorem armDecoder_results : (armDecoder s).results = s.results := rfl
@[simp] theorem armDecoder_powerOns : (armDecoder s).powerOns = s.powerOns := rfl
@[simp] theorem armDecoder_pending : (armDecoder s).pending = s.pending := rfl
@[simp] theorem armDecoder_txCell (j : Nat) : txCell (armDecoder s) j = txCell s j := rfl
@[simp] theorem armDecoder_rxCell (j : Nat) : rxCell (armDecoder s) j = rxCell s j := rfl

/-! ### `resetRegisters` -/

@[simp] theorem resetRegisters_cfg : (resetRegisters s).cfg = s.cfg := rfl
@[simp] theorem resetRegisters_txtype : (resetRegisters s).txtype = 0x01 := rfl
@[simp] theorem resetRegisters_txn : (resetRegisters s).txn = 0 := rfl
@[simp] theorem resetRegisters_txpos : (resetRegisters s).txpos = 0 := rfl
@[simp] theorem resetRegisters_txcs : (resetRegisters s).txcs = 0 := rfl
@[simp] theorem resetRegisters_txbusy : (resetRegisters s).txbusy = false := rfl
@[simp] theorem resetRegisters_txbuf : (resetRegisters s).txbuf = s.txbuf := rfl
@[simp] theorem resetRegisters_txout : (resetRegisters s).txout = s.txout := rfl
@[simp] theorem resetRegisters_rxst : (resetRegisters s).rxst = .idle := rfl
@[simp] theorem resetRegisters_rxtype : (resetRegisters s).rxtype = 0 := rfl
@[simp] theorem resetRegisters_rxlen : (resetRegisters s).rxlen = 0 := rfl
@[simp] theorem resetRegisters_rxn : (resetRegisters s).rxn = 0 := rfl
@[simp] theorem resetRegisters_rxpos : (resetRegisters s).rxpos = 0 := rfl
@[simp] theorem resetRegisters_rxcs : (resetRegisters s).rxcs = 0 := rfl
@[simp] theorem resetRegisters_rxck : (resetRegisters s).rxck = 0 := rfl
@[simp] theorem resetRegisters_ckpres : (resetRegisters s).ckpres = false := rfl
@[simp] theorem resetRegisters_csok : (resetRegisters s).csok = false := rfl
@[simp] theorem resetRegisters_trail : (resetRegisters s).trail = false := rfl
@[simp] theorem resetRegisters_rxerr : (resetRegisters s).rxerr = .none := rfl
@[simp] theorem resetRegisters_rxbuf : (resetRegisters s).rxbuf = s.rxbuf := rfl
@[simp] theorem resetRegisters_csacc : (resetRegisters s).csacc = 0 := rfl
@[simp] theorem resetRegisters_operr : (resetRegisters s).operr = false := rfl
@[simp] theorem resetRegisters_operrc : (resetRegisters s).operrc = .none := rfl
@[simp] theorem resetRegisters_results : (resetRegisters s).results = s.results := rfl
@[simp] theorem resetRegisters_powerOns : (resetRegisters s).powerOns = s.powerOns := rfl
@[simp] theorem resetRegisters_pending : (resetRegisters s).pending = s.pending := rfl
@[simp] theorem resetRegisters_txCell (j : Nat) : txCell (resetRegisters s) j = txCell s j := rfl
@[simp] theorem resetRegisters_rxCell (j : Nat) : rxCell (resetRegisters s) j = rxCell s j := rfl

/-! ### `scrambleBuffers` -/

@[simp] theorem scrambleBuffers_cfg : (scrambleBuffers s).cfg = s.cfg := rfl
@[simp] theorem scrambleBuffers_txtype : (scrambleBuffers s).txtype = s.txtype := rfl
@[simp] theorem scrambleBuffers_txn : (scrambleBuffers s).txn = s.txn := rfl
@[simp] theorem scrambleBuffers_txpos : (scrambleBuffers s).txpos = s.txpos := rfl
@[simp] theorem scrambleBuffers_txcs : (scrambleBuffers s).txcs = s.txcs := rfl
@[simp] theorem scrambleBuffers_txbusy : (scrambleBuffers s).txbusy = s.txbusy := rfl
@[simp] theorem scrambleBuffers_txbuf : (scrambleBuffers s).txbuf = [] := rfl
@[simp] theorem scrambleBuffers_txout : (scrambleBuffers s).txout = s.txout := rfl
@[simp] theorem scrambleBuffers_rxst : (scrambleBuffers s).rxst = s.rxst := rfl
@[simp] theorem scrambleBuffers_rxtype : (scrambleBuffers s).rxtype = s.rxtype := rfl
@[simp] theorem scrambleBuffers_rxlen : (scrambleBuffers s).rxlen = s.rxlen := rfl
@[simp] theorem scrambleBuffers_rxn : (scrambleBuffers s).rxn = s.rxn := rfl
@[simp] theorem scrambleBuffers_rxpos : (scrambleBuffers s).rxpos = s.rxpos := rfl
@[simp] theorem scrambleBuffers_rxcs : (scrambleBuffers s).rxcs = s.rxcs := rfl
@[simp] theorem scrambleBuffers_rxck : (scrambleBuffers s).rxck = s.rxck := rfl
@[simp] theorem scrambleBuffers_ckpres : (scrambleBuffers s).ckpres = s.ckpres := rfl
@[simp] theorem scrambleBuffers_csok : (scrambleBuffers s).csok = s.csok := rfl
@[simp] theorem scrambleBuffers_trail : (scrambleBuffers s).trail = s.trail := rfl
@[simp] theorem scrambleBuffers_rxerr : (scrambleBuffers s).rxerr = s.rxerr := rfl
@[simp] theorem scrambleBuffers_rxbuf : (scrambleBuffers s).rxbuf = [] := rfl
@[simp] theorem scrambleBuffers_csacc : (scrambleBuffers s).csacc = s.csacc := rfl
@[simp] theorem scrambleBuffers_operr : (scrambleBuffers s).operr = s.operr := rfl
@[simp] theorem scrambleBuffers_operrc : (scrambleBuffers s).operrc = s.operrc := rfl
@[simp] theorem scrambleBuffers_results : (scrambleBuffers s).results = s.results := rfl
@[simp] theorem scrambleBuffers_powerOns : (scrambleBuffers s).powerOns = s.powerOns + 1 := rfl
@[simp] theorem scrambleBuffers_pending : (scrambleBuffers s).pending = s.pending := rfl

/-! ### `txStore` -/

@[simp] theorem txStore_cfg (i : Nat) (b : Byte) : (txStore i b s).cfg = s.cfg := rfl
@[simp] theorem txStore_txtype (i : Nat) (b : Byte) : (txStore i b s).txtype = s.txtype := rfl
@[simp] theorem txStore_txn (i : Nat) (b : Byte) : (txStore i b s).txn = s.txn := rfl
@[simp] theorem txStore_txpos (i : Nat) (b : Byte) : (txStore i b s).txpos = s.txpos := rfl
@[simp] theorem txStore_txcs (i : Nat) (b : Byte) : (txStore i b s).txcs = s.txcs := rfl
@[simp] theorem txStore_txbusy (i : Nat) (b : Byte) : (txStore i b s).txbusy = s.txbusy := rfl
@[simp] theorem txStore_txbuf (i : Nat) (b : Byte) : (txStore i b s).txbuf = Memory.store s.txbuf i b := rfl
@[simp] theorem txStore_txout (i : Nat) (b : Byte) : (txStore i b s).txout = s.txout := rfl
@[simp] theorem txStore_rxst (i : Nat) (b : Byte) : (txStore i b s).rxst = s.rxst := rfl
@[simp] theorem txStore_rxtype (i : Nat) (b : Byte) : (txStore i b s).rxtype = s.rxtype := rfl
@[simp] theorem txStore_rxlen (i : Nat) (b : Byte) : (txStore i b s).rxlen = s.rxlen := rfl
@[simp] theorem txStore_rxn (i : Nat) (b : Byte) : (txStore i b s).rxn = s.rxn := rfl
@[simp] theorem txStore_rxpos (i : Nat) (b : Byte) : (txStore i b s).rxpos = s.rxpos := rfl
@[simp] theorem txStore_rxcs (i : Nat) (b : Byte) : (txStore i b s).rxcs = s.rxcs := rfl
@[simp] theorem txStore_rxck (i : Nat) (b : Byte) : (txStore i b s).rxck = s.rxck := rfl
@[simp] theorem txStore_ckpres (i : Nat) (b : Byte) : (txStore i b s).ckpres = s.ckpres := rfl
@[simp] theorem txStore_csok (i : Nat) (b : Byte) : (txStore i b s).csok = s.csok := rfl
@[simp] theorem txStore_trail (i : Nat) (b : Byte) : (txStore i b s).trail = s.trail := rfl
@[simp] theorem txStore_rxerr (i : Nat) (b : Byte) : (txStore i b s).rxerr = s.rxerr := rfl
@[simp] theorem txStore_rxbuf (i : Nat) (b : Byte) : (txStore i b s).rxbuf = s.rxbuf := rfl
@[simp] theorem txStore_csacc (i : Nat) (b : Byte) : (txStore i b s).csacc = s.csacc := rfl
@[simp] theorem txStore_operr (i : Nat) (b : Byte) : (txStore i b s).operr = s.operr := rfl
@[simp] theorem txStore_operrc (i : Nat) (b : Byte) : (txStore i b s).operrc = s.operrc := rfl
@[simp] theorem txStore_results (i : Nat) (b : Byte) : (txStore i b s).results = s.results := rfl
@[simp] theorem txStore_powerOns (i : Nat) (b : Byte) : (txStore i b s).powerOns = s.powerOns := rfl
@[simp] theorem txStore_pending (i : Nat) (b : Byte) : (txStore i b s).pending = s.pending := rfl
@[simp] theorem txStore_rxCell (i : Nat) (b : Byte) (j : Nat) : rxCell (txStore i b s) j = rxCell s j := rfl

/-! ### `rxStore` -/

@[simp] theorem rxStore_cfg (i : Nat) (b : Byte) : (rxStore i b s).cfg = s.cfg := rfl
@[simp] theorem rxStore_txtype (i : Nat) (b : Byte) : (rxStore i b s).txtype = s.txtype := rfl
@[simp] theorem rxStore_txn (i : Nat) (b : Byte) : (rxStore i b s).txn = s.txn := rfl
@[simp] theorem rxStore_txpos (i : Nat) (b : Byte) : (rxStore i b s).txpos = s.txpos := rfl
@[simp] theorem rxStore_txcs (i : Nat) (b : Byte) : (rxStore i b s).txcs = s.txcs := rfl
@[simp] theorem rxStore_txbusy (i : Nat) (b : Byte) : (rxStore i b s).txbusy = s.txbusy := rfl
@[simp] theorem rxStore_txbuf (i : Nat) (b : Byte) : (rxStore i b s).txbuf = s.txbuf := rfl
@[simp] theorem rxStore_txout (i : Nat) (b : Byte) : (rxStore i b s).txout = s.txout := rfl
@[simp] theorem rxStore_rxst (i : Nat) (b : Byte) : (rxStore i b s).rxst = s.rxst := rfl
@[simp] theorem rxStore_rxtype (i : Nat) (b : Byte) : (rxStore i b s).rxtype = s.rxtype := rfl
@[simp] theorem rxStore_rxlen (i : Nat) (b : Byte) : (rxStore i b s).rxlen = s.rxlen := rfl
@[simp] theorem rxStore_rxn (i : Nat) (b : Byte) : (rxStore i b s).rxn = s.rxn := rfl
@[simp] theorem rxStore_rxpos (i : Nat) (b : Byte) : (rxStore i b s).rxpos = s.rxpos := rfl
@[simp] theorem rxStore_rxcs (i : Nat) (b : Byte) : (rxStore i b s).rxcs = s.rxcs := rfl
@[simp] theorem rxStore_rxck (i : Nat) (b : Byte) : (rxStore i b s).rxck = s.rxck := rfl
@[simp] theorem rxStore_ckpres (i : Nat) (b : Byte) : (rxStore i b s).ckpres = s.ckpres := rfl
@[simp] theorem rxStore_csok (i : Nat) (b : Byte) : (rxStore i b s).csok = s.csok := rfl
@[simp] theorem rxStore_trail (i : Nat) (b : Byte) : (rxStore i b s).trail = s.trail := rfl
@[simp] theorem rxStore_rxerr (i : Nat) (b : Byte) : (rxStore i b s).rxerr = s.rxerr := rfl
@[simp] theorem rxStore_rxbuf (i : Nat) (b : Byte) : (rxStore i b s).rxbuf = Memory.store s.rxbuf i b := rfl
@[simp] theorem rxStore_csacc (i : Nat) (b : Byte) : (rxStore i b s).csacc = s.csacc := rfl
@[simp] theorem rxStore_operr (i : Nat) (b : Byte) : (rxStore i b s).operr = s.operr := rfl
@[simp] theorem rxStore_operrc (i : Nat) (b : Byte) : (rxStore i b s).operrc = s.operrc := rfl
@[simp] theorem rxStore_results (i : Nat) (b : Byte) : (rxStore i b s).results = s.results := rfl
@[simp] theorem rxStore_powerOns (i : Nat) (b : Byte) : (rxStore i b s).powerOns = s.powerOns := rfl
@[simp] theorem rxStore_pending (i : Nat) (b : Byte) : (rxStore i b s).pending = s.pending := rfl
@[simp] theorem rxStore_txCell (i : Nat) (b : Byte) (j : Nat) : txCell (rxStore i b s) j = txCell s j := rfl

/-! ### `startFrame` -/

@[simp] theorem startFrame_cfg : (startFrame s).cfg = s.cfg := rfl
@[simp] theorem startFrame_txtype : (startFrame s).txtype = s.txtype := rfl
@[simp] theorem startFrame_txn : (startFrame s).txn = s.txn := rfl
@[simp] theorem startFrame_txpos : (startFrame s).txpos = 0 := rfl
@[simp] theorem startFrame_txcs : (startFrame s).txcs = 0 := rfl
@[simp] theorem startFrame_txbusy : (startFrame s).txbusy = true := rfl
@[simp] theorem startFrame_txbuf : (startFrame s).txbuf = s.txbuf := rfl
@[simp] theorem startFrame_txout : (startFrame s).txout = s.txout := rfl
@[simp] theorem startFrame_rxst : (startFrame s).rxst = s.rxst := rfl
@[simp] theorem startFrame_rxtype : (startFrame s).rxtype = s.rxtype := rfl
@[simp] theorem startFrame_rxlen : (startFrame s).rxlen = s.rxlen := rfl
@[simp] theorem startFrame_rxn : (startFrame s).rxn = s.rxn := rfl
@[simp] theorem startFrame_rxpos : (startFrame s).rxpos = s.rxpos := rfl
@[simp] theorem startFrame_rxcs : (startFrame s).rxcs = s.rxcs := rfl
@[simp] theorem startFrame_rxck : (startFrame s).rxck = s.rxck := rfl
@[simp] theorem startFrame_ckpres : (startFrame s).ckpres = s.ckpres := rfl
@[simp] theorem startFrame_csok : (startFrame s).csok = s.csok := rfl
@[simp] theorem startFrame_trail : (startFrame s).trail = s.trail := rfl
@[simp] theorem startFrame_rxerr : (startFrame s).rxerr = s.rxerr := rfl
@[simp] theorem startFrame_rxbuf : (startFrame s).rxbuf = s.rxbuf := rfl
@[simp] theorem startFrame_csacc : (startFrame s).csacc = s.csacc := rfl
@[simp] theorem startFrame_operr : (startFrame s).operr = s.operr := rfl
@[simp] theorem startFrame_operrc : (startFrame s).operrc = s.operrc := rfl
@[simp] theorem startFrame_results : (startFrame s).results = s.results := rfl
@[simp] theorem startFrame_powerOns : (startFrame s).powerOns = s.powerOns := rfl
@[simp] theorem startFrame_pending : (startFrame s).pending = s.pending := rfl
@[simp] theorem startFrame_txCell (j : Nat) : txCell (startFrame s) j = txCell s j := rfl
@[simp] theorem startFrame_rxCell (j : Nat) : rxCell (startFrame s) j = rxCell s j := rfl

/-! ### `emitByte` -/

@[simp] theorem emitByte_cfg (o : Byte) : (emitByte o s).cfg = s.cfg := rfl
@[simp] theorem emitByte_txtype (o : Byte) : (emitByte o s).txtype = s.txtype := rfl
@[simp] theorem emitByte_txn (o : Byte) : (emitByte o s).txn = s.txn := rfl
@[simp] theorem emitByte_txpos (o : Byte) : (emitByte o s).txpos = s.txpos + 1 := rfl
@[simp] theorem emitByte_txcs (o : Byte) : (emitByte o s).txcs = s.txcs := rfl
@[simp] theorem emitByte_txbusy (o : Byte) : (emitByte o s).txbusy = s.txbusy := rfl
@[simp] theorem emitByte_txbuf (o : Byte) : (emitByte o s).txbuf = s.txbuf := rfl
@[simp] theorem emitByte_txout (o : Byte) : (emitByte o s).txout = s.txout ++ [o] := rfl
@[simp] theorem emitByte_rxst (o : Byte) : (emitByte o s).rxst = s.rxst := rfl
@[simp] theorem emitByte_rxtype (o : Byte) : (emitByte o s).rxtype = s.rxtype := rfl
@[simp] theorem emitByte_rxlen (o : Byte) : (emitByte o s).rxlen = s.rxlen := rfl
@[simp] theorem emitByte_rxn (o : Byte) : (emitByte o s).rxn = s.rxn := rfl
@[simp] theorem emitByte_rxpos (o : Byte) : (emitByte o s).rxpos = s.rxpos := rfl
@[simp] theorem emitByte_rxcs (o : Byte) : (emitByte o s).rxcs = s.rxcs := rfl
@[simp] theorem emitByte_rxck (o : Byte) : (emitByte o s).rxck = s.rxck := rfl
@[simp] theorem emitByte_ckpres (o : Byte) : (emitByte o s).ckpres = s.ckpres := rfl
@[simp] theorem emitByte_csok (o : Byte) : (emitByte o s).csok = s.csok := rfl
@[simp] theorem emitByte_trail (o : Byte) : (emitByte o s).trail = s.trail := rfl
@[simp] theorem emitByte_rxerr (o : Byte) : (emitByte o s).rxerr = s.rxerr := rfl
@[simp] theorem emitByte_rxbuf (o : Byte) : (emitByte o s).rxbuf = s.rxbuf := rfl
@[simp] theorem emitByte_csacc (o : Byte) : (emitByte o s).csacc = s.csacc := rfl
@[simp] theorem emitByte_operr (o : Byte) : (emitByte o s).operr = s.operr := rfl
@[simp] theorem emitByte_operrc (o : Byte) : (emitByte o s).operrc = s.operrc := rfl
@[simp] theorem emitByte_results (o : Byte) : (emitByte o s).results = s.results := rfl
@[simp] theorem emitByte_powerOns (o : Byte) : (emitByte o s).powerOns = s.powerOns := rfl
@[simp] theorem emitByte_pending (o : Byte) : (emitByte o s).pending = s.pending := rfl
@[simp] theorem emitByte_txCell (o : Byte) (j : Nat) : txCell (emitByte o s) j = txCell s j := rfl
@[simp] theorem emitByte_rxCell (o : Byte) (j : Nat) : rxCell (emitByte o s) j = rxCell s j := rfl

/-! ### `emitSummed` -/

@[simp] theorem emitSummed_cfg (o : Byte) : (emitSummed o s).cfg = s.cfg := rfl
@[simp] theorem emitSummed_txtype (o : Byte) : (emitSummed o s).txtype = s.txtype := rfl
@[simp] theorem emitSummed_txn (o : Byte) : (emitSummed o s).txn = s.txn := rfl
@[simp] theorem emitSummed_txpos (o : Byte) : (emitSummed o s).txpos = s.txpos + 1 := rfl
@[simp] theorem emitSummed_txcs (o : Byte) : (emitSummed o s).txcs = addByte s.txcs o := rfl
@[simp] theorem emitSummed_txbusy (o : Byte) : (emitSummed o s).txbusy = s.txbusy := rfl
@[simp] theorem emitSummed_txbuf (o : Byte) : (emitSummed o s).txbuf = s.txbuf := rfl
@[simp] theorem emitSummed_txout (o : Byte) : (emitSummed o s).txout = s.txout ++ [o] := rfl
@[simp] theorem emitSummed_rxst (o : Byte) : (emitSummed o s).rxst = s.rxst := rfl
@[simp] theorem emitSummed_rxtype (o : Byte) : (emitSummed o s).rxtype = s.rxtype := rfl
@[simp] theorem emitSummed_rxlen (o : Byte) : (emitSummed o s).rxlen = s.rxlen := rfl
@[simp] theorem emitSummed_rxn (o : Byte) : (emitSummed o s).rxn = s.rxn := rfl
@[simp] theorem emitSummed_rxpos (o : Byte) : (emitSummed o s).rxpos = s.rxpos := rfl
@[simp] theorem emitSummed_rxcs (o : Byte) : (emitSummed o s).rxcs = s.rxcs := rfl
@[simp] theorem emitSummed_rxck (o : Byte) : (emitSummed o s).rxck = s.rxck := rfl
@[simp] theorem emitSummed_ckpres (o : Byte) : (emitSummed o s).ckpres = s.ckpres := rfl
@[simp] theorem emitSummed_csok (o : Byte) : (emitSummed o s).csok = s.csok := rfl
@[simp] theorem emitSummed_trail (o : Byte) : (emitSummed o s).trail = s.trail := rfl
@[simp] theorem emitSummed_rxerr (o : Byte) : (emitSummed o s).rxerr = s.rxerr := rfl
@[simp] theorem emitSummed_rxbuf (o : Byte) : (emitSummed o s).rxbuf = s.rxbuf := rfl
@[simp] theorem emitSummed_csacc (o : Byte) : (emitSummed o s).csacc = s.csacc := rfl
@[simp] theorem emitSummed_operr (o : Byte) : (emitSummed o s).operr = s.operr := rfl
@[simp] theorem emitSummed_operrc (o : Byte) : (emitSummed o s).operrc = s.operrc := rfl
@[simp] theorem emitSummed_results (o : Byte) : (emitSummed o s).results = s.results := rfl
@[simp] theorem emitSummed_powerOns (o : Byte) : (emitSummed o s).powerOns = s.powerOns := rfl
@[simp] theorem emitSummed_pending (o : Byte) : (emitSummed o s).pending = s.pending := rfl
@[simp] theorem emitSummed_txCell (o : Byte) (j : Nat) : txCell (emitSummed o s) j = txCell s j := rfl
@[simp] theorem emitSummed_rxCell (o : Byte) (j : Nat) : rxCell (emitSummed o s) j = rxCell s j := rfl

/-! ### `rxAccept` -/

@[simp] theorem rxAccept_cfg : (rxAccept s).cfg = s.cfg := rfl
@[simp] theorem rxAccept_txtype : (rxAccept s).txtype = s.txtype := rfl
@[simp] theorem rxAccept_txn : (rxAccept s).txn = s.txn := rfl
@[simp] theorem rxAccept_txpos : (rxAccept s).txpos = s.txpos := rfl
@[simp] theorem rxAccept_txcs : (rxAccept s).txcs = s.txcs := rfl
@[simp] theorem rxAccept_txbusy : (rxAccept s).txbusy = s.txbusy := rfl
@[simp] theorem rxAccept_txbuf : (rxAccept s).txbuf = s.txbuf := rfl
@[simp] theorem rxAccept_txout : (rxAccept s).txout = s.txout := rfl
@[simp] theorem rxAccept_rxst : (rxAccept s).rxst = s.rxst := rfl
@[simp] theorem rxAccept_rxtype : (rxAccept s).rxtype = s.rxtype := rfl
@[simp] theorem rxAccept_rxlen : (rxAccept s).rxlen = s.rxlen := rfl
@[simp] theorem rxAccept_rxn : (rxAccept s).rxn = s.rxn := rfl
@[simp] theorem rxAccept_rxpos : (rxAccept s).rxpos = s.rxpos + 1 := rfl
@[simp] theorem rxAccept_rxcs : (rxAccept s).rxcs = s.rxcs := rfl
@[simp] theorem rxAccept_rxck : (rxAccept s).rxck = s.rxck := rfl
@[simp] theorem rxAccept_ckpres : (rxAccept s).ckpres = s.ckpres := rfl
@[simp] theorem rxAccept_csok : (rxAccept s).csok = s.csok := rfl
@[simp] theorem rxAccept_trail : (rxAccept s).trail = s.trail := rfl
@[simp] theorem rxAccept_rxerr : (rxAccept s).rxerr = s.rxerr := rfl
@[simp] theorem rxAccept_rxbuf : (rxAccept s).rxbuf = s.rxbuf := rfl
@[simp] theorem rxAccept_csacc : (rxAccept s).csacc = s.csacc := rfl
@[simp] theorem rxAccept_operr : (rxAccept s).operr = s.operr := rfl
@[simp] theorem rxAccept_operrc : (rxAccept s).operrc = s.operrc := rfl
@[simp] theorem rxAccept_results : (rxAccept s).results = s.results := rfl
@[simp] theorem rxAccept_powerOns : (rxAccept s).powerOns = s.powerOns := rfl
@[simp] theorem rxAccept_pending : (rxAccept s).pending = s.pending := rfl
@[simp] theorem rxAccept_txCell (j : Nat) : txCell (rxAccept s) j = txCell s j := rfl
@[simp] theorem rxAccept_rxCell (j : Nat) : rxCell (rxAccept s) j = rxCell s j := rfl

/-! ### `rxSummed` -/

@[simp] theorem rxSummed_cfg (b : Byte) : (rxSummed b s).cfg = s.cfg := rfl
@[simp] theorem rxSummed_txtype (b : Byte) : (rxSummed b s).txtype = s.txtype := rfl
@[simp] theorem rxSummed_txn (b : Byte) : (rxSummed b s).txn = s.txn := rfl
@[simp] theorem rxSummed_txpos (b : Byte) : (rxSummed b s).txpos = s.txpos := rfl
@[simp] theorem rxSummed_txcs (b : Byte) : (rxSummed b s).txcs = s.txcs := rfl
@[simp] theorem rxSummed_txbusy (b : Byte) : (rxSummed b s).txbusy = s.txbusy := rfl
@[simp] theorem rxSummed_txbuf (b : Byte) : (rxSummed b s).txbuf = s.txbuf := rfl
@[simp] theorem rxSummed_txout (b : Byte) : (rxSummed b s).txout = s.txout := rfl
@[simp] theorem rxSummed_rxst (b : Byte) : (rxSummed b s).rxst = s.rxst := rfl
@[simp] theorem rxSummed_rxtype (b : Byte) : (rxSummed b s).rxtype = s.rxtype := rfl
@[simp] theorem rxSummed_rxlen (b : Byte) : (rxSummed b s).rxlen = s.rxlen := rfl
@[simp] theorem rxSummed_rxn (b : Byte) : (rxSummed b s).rxn = s.rxn := rfl
@[simp] theorem rxSummed_rxpos (b : Byte) : (rxSummed b s).rxpos = s.rxpos + 1 := rfl
@[simp] theorem rxSummed_rxcs (b : Byte) : (rxSummed b s).rxcs = addByte s.rxcs b := rfl
@[simp] theorem rxSummed_rxck (b : Byte) : (rxSummed b s).rxck = s.rxck := rfl
@[simp] theorem rxSummed_ckpres (b : Byte) : (rxSummed b s).ckpres = s.ckpres := rfl
@[simp] theorem rxSummed_csok (b : Byte) : (rxSummed b s).csok = s.csok := rfl
@[simp] theorem rxSummed_trail (b : Byte) : (rxSummed b s).trail = s.trail := rfl
@[simp] theorem rxSummed_rxerr (b : Byte) : (rxSummed b s).rxerr = s.rxerr := rfl
@[simp] theorem rxSummed_rxbuf (b : Byte) : (rxSummed b s).rxbuf = s.rxbuf := rfl
@[simp] theorem rxSummed_csacc (b : Byte) : (rxSummed b s).csacc = s.csacc := rfl
@[simp] theorem rxSummed_operr (b : Byte) : (rxSummed b s).operr = s.operr := rfl
@[simp] theorem rxSummed_operrc (b : Byte) : (rxSummed b s).operrc = s.operrc := rfl
@[simp] theorem rxSummed_results (b : Byte) : (rxSummed b s).results = s.results := rfl
@[simp] theorem rxSummed_powerOns (b : Byte) : (rxSummed b s).powerOns = s.powerOns := rfl
@[simp] theorem rxSummed_pending (b : Byte) : (rxSummed b s).pending = s.pending := rfl
@[simp] theorem rxSummed_txCell (b : Byte) (j : Nat) : txCell (rxSummed b s) j = txCell s j := rfl
@[simp] theorem rxSummed_rxCell (b : Byte) (j : Nat) : rxCell (rxSummed b s) j = rxCell s j := rfl

/-! ### `recordRefusal` (two cases, by the record already held) -/

@[simp] theorem recordRefusal_cfg (c : OpError) : (recordRefusal c s).cfg = s.cfg := by
  unfold recordRefusal; split <;> rfl
@[simp] theorem recordRefusal_txtype (c : OpError) : (recordRefusal c s).txtype = s.txtype := by
  unfold recordRefusal; split <;> rfl
@[simp] theorem recordRefusal_txn (c : OpError) : (recordRefusal c s).txn = s.txn := by
  unfold recordRefusal; split <;> rfl
@[simp] theorem recordRefusal_txpos (c : OpError) : (recordRefusal c s).txpos = s.txpos := by
  unfold recordRefusal; split <;> rfl
@[simp] theorem recordRefusal_txcs (c : OpError) : (recordRefusal c s).txcs = s.txcs := by
  unfold recordRefusal; split <;> rfl
@[simp] theorem recordRefusal_txbusy (c : OpError) : (recordRefusal c s).txbusy = s.txbusy := by
  unfold recordRefusal; split <;> rfl
@[simp] theorem recordRefusal_txbuf (c : OpError) : (recordRefusal c s).txbuf = s.txbuf := by
  unfold recordRefusal; split <;> rfl
@[simp] theorem recordRefusal_txout (c : OpError) : (recordRefusal c s).txout = s.txout := by
  unfold recordRefusal; split <;> rfl
@[simp] theorem recordRefusal_rxst (c : OpError) : (recordRefusal c s).rxst = s.rxst := by
  unfold recordRefusal; split <;> rfl
@[simp] theorem recordRefusal_rxtype (c : OpError) : (recordRefusal c s).rxtype = s.rxtype := by
  unfold recordRefusal; split <;> rfl
@[simp] theorem recordRefusal_rxlen (c : OpError) : (recordRefusal c s).rxlen = s.rxlen := by
  unfold recordRefusal; split <;> rfl
@[simp] theorem recordRefusal_rxn (c : OpError) : (recordRefusal c s).rxn = s.rxn := by
  unfold recordRefusal; split <;> rfl
@[simp] theorem recordRefusal_rxpos (c : OpError) : (recordRefusal c s).rxpos = s.rxpos := by
  unfold recordRefusal; split <;> rfl
@[simp] theorem recordRefusal_rxcs (c : OpError) : (recordRefusal c s).rxcs = s.rxcs := by
  unfold recordRefusal; split <;> rfl
@[simp] theorem recordRefusal_rxck (c : OpError) : (recordRefusal c s).rxck = s.rxck := by
  unfold recordRefusal; split <;> rfl
@[simp] theorem recordRefusal_ckpres (c : OpError) : (recordRefusal c s).ckpres = s.ckpres := by
  unfold recordRefusal; split <;> rfl
@[simp] theorem recordRefusal_csok (c : OpError) : (recordRefusal c s).csok = s.csok := by
  unfold recordRefusal; split <;> rfl
@[simp] theorem recordRefusal_trail (c : OpError) : (recordRefusal c s).trail = s.trail := by
  unfold recordRefusal; split <;> rfl
@[simp] theorem recordRefusal_rxerr (c : OpError) : (recordRefusal c s).rxerr = s.rxerr := by
  unfold recordRefusal; split <;> rfl
@[simp] theorem recordRefusal_rxbuf (c : OpError) : (recordRefusal c s).rxbuf = s.rxbuf := by
  unfold recordRefusal; split <;> rfl
@[simp] theorem recordRefusal_csacc (c : OpError) : (recordRefusal c s).csacc = s.csacc := by
  unfold recordRefusal; split <;> rfl
@[simp] theorem recordRefusal_operr (c : OpError) : (recordRefusal c s).operr = true := by
  unfold recordRefusal; split <;> simp_all
@[simp] theorem recordRefusal_operrc (c : OpError) : (recordRefusal c s).operrc = if s.operr then s.operrc else c := by
  unfold recordRefusal; split <;> simp_all
@[simp] theorem recordRefusal_results (c : OpError) : (recordRefusal c s).results = s.results := by
  unfold recordRefusal; split <;> rfl
@[simp] theorem recordRefusal_powerOns (c : OpError) : (recordRefusal c s).powerOns = s.powerOns := by
  unfold recordRefusal; split <;> rfl
@[simp] theorem recordRefusal_pending (c : OpError) : (recordRefusal c s).pending = s.pending := by
  unfold recordRefusal; split <;> rfl
@[simp] theorem recordRefusal_txCell (c : OpError) (j : Nat) : txCell (recordRefusal c s) j = txCell s j := by
  unfold recordRefusal; split <;> rfl
@[simp] theorem recordRefusal_rxCell (c : OpError) (j : Nat) : rxCell (recordRefusal c s) j = rxCell s j := by
  unfold recordRefusal; split <;> rfl

end Sys2Proof.Machine
end

