-- ==== Sys2Proof/Laws/Memory.lean ====
section
/-! SUPPORT. The laws of the payload buffers: read after write, and every write keeps the canonical form. -/

namespace Sys2Proof.Machine

/-- A read after a write to the same cell gives the byte written. -/
@[simp] theorem lookup_store_same (m : Memory) (i : Nat) (b : Byte) :
    Memory.lookup (Memory.store m i b) i = some b := by
  induction m with
  | nil => simp [Memory.store, Memory.lookup]
  | cons c m ih =>
    obtain ⟨k, v⟩ := c
    simp only [Memory.store]
    split
    · simp [Memory.lookup]
    · split
      · simp [Memory.lookup]
      · have hne : ¬ k = i := by omega
        simp [Memory.lookup, hne, ih]

/-- A write leaves every other cell alone. -/
theorem lookup_store_other (m : Memory) (i j : Nat) (b : Byte) (h : j ≠ i) :
    Memory.lookup (Memory.store m i b) j = Memory.lookup m j := by
  induction m with
  | nil => simp [Memory.store, Memory.lookup, Ne.symm h]
  | cons c m ih =>
    obtain ⟨k, v⟩ := c
    simp only [Memory.store]
    split
    · simp [Memory.lookup, Ne.symm h]
    · split
      · rename_i hik
        subst hik
        simp [Memory.lookup, Ne.symm h]
      · simp [Memory.lookup, ih]

/-- The cells listed after a write are those listed before, and the one written. -/
theorem mem_store (m : Memory) (i : Nat) (b : Byte) (c : Host.Cell) (h : c ∈ Memory.store m i b) :
    c = (i, b) ∨ c ∈ m := by
  induction m with
  | nil => simpa [Memory.store] using h
  | cons d m ih =>
    obtain ⟨k, v⟩ := d
    simp only [Memory.store] at h
    split at h
    · simpa using h
    · split at h
      · rcases List.mem_cons.mp h with h | h
        · exact .inl h
        · exact .inr (List.mem_cons_of_mem _ h)
      · rcases List.mem_cons.mp h with h | h
        · exact .inr (h ▸ List.mem_cons_self ..)
        · exact (ih h).imp id (List.mem_cons_of_mem _)

/-- A write keeps the canonical form. -/
theorem store_wf (m : Memory) (i : Nat) (b : Byte) (h : Memory.wf m) : Memory.wf (Memory.store m i b) := by
  induction m with
  | nil => simp [Memory.store]
  | cons d m ih =>
    obtain ⟨k, v⟩ := d
    obtain ⟨hk, hm⟩ := List.pairwise_cons.mp h
    simp only [Memory.store]
    split
    · rename_i hik
      refine List.pairwise_cons.mpr ⟨fun c hc => ?_, h⟩
      rcases List.mem_cons.mp hc with rfl | hc
      · exact hik
      · exact lt_trans hik (hk c hc)
    · split
      · rename_i hik
        subst hik
        exact List.pairwise_cons.mpr ⟨hk, hm⟩
      · refine List.pairwise_cons.mpr ⟨fun c hc => ?_, ih hm⟩
        rcases mem_store m i b c hc with rfl | hc
        · show k < i
          omega
        · exact hk c hc

/-- A write to a cell that exists lists no cell that does not. -/
theorem store_below (m : Memory) (i n : Nat) (b : Byte) (h : Memory.below m n) (hi : i < n) :
    Memory.below (Memory.store m i b) n := by
  intro c hc
  rcases mem_store m i b c hc with rfl | hc
  · exact hi
  · exact h c hc

/-- `TXBUF[i] <- b` and then `TXBUF[j]`. -/
theorem txCell_txStore (i j : Nat) (b : Byte) (s : State) :
    txCell (txStore i b s) j = if j = i then b else txCell s j := by
  by_cases h : j = i
  · subst h; simp [txCell]
  · simp [txCell, lookup_store_other _ _ _ _ h, h]

/-- `RXBUF[i] <- b` and then `RXBUF[j]`. -/
theorem rxCell_rxStore (i j : Nat) (b : Byte) (s : State) :
    rxCell (rxStore i b s) j = if j = i then b else rxCell s j := by
  by_cases h : j = i
  · subst h; simp [rxCell]
  · simp [rxCell, lookup_store_other _ _ _ _ h, h]



/-- A cell reads the same in two states with the same buffer since the same power-on. -/
theorem txCell_congr {s t : State} (h : t.txbuf = s.txbuf) (hp : t.powerOns = s.powerOns) (i : Nat) :
    txCell t i = txCell s i := by
  simp [txCell, h, hp]

theorem rxCell_congr {s t : State} (h : t.rxbuf = s.rxbuf) (hp : t.powerOns = s.powerOns) (i : Nat) :
    rxCell t i = rxCell s i := by
  simp [rxCell, h, hp]

/-- An unlisted cell reads as the free value of the last power-on. -/
theorem txCell_unlisted (s : State) (i : Nat) (h : s.txbuf = []) : txCell s i = Config.powerOnTx s.powerOns i := by
  simp [txCell, h, Memory.lookup]

theorem rxCell_unlisted (s : State) (i : Nat) (h : s.rxbuf = []) : rxCell s i = Config.powerOnRx s.powerOns i := by
  simp [rxCell, h, Memory.lookup]

end Sys2Proof.Machine
end

