-- ==== Sys2Proof/Laws/Operations.lean ====
section
/-! SUPPORT. One lemma per shared operation: everything it can do. -/

namespace Sys2Proof.Machine

/-- An accepted operation has one next state. -/
@[simp] theorem accept_eq (v : Half) (s : State) : accept v s = .next (afterAccept v s) := rfl

/-- A refused operation has one next state: R176. -/
@[simp] theorem refuse_eq (c : OpError) (s : State) : refuse c s = .next (afterRefusal c s) := by
  unfold refuse recordRefusal giveResult afterRefusal
  cases h : s.operr <;> simp [h]

/-- `RDREG` reads a register below `0x0C` and no other. -/
theorem readRegister_none_iff (r : Byte) (s : State) : readRegister r s = none ↔ 0x0C ≤ r.toNat := by
  unfold readRegister
  split <;> simp_all
  omega

/-- `WRREG` writes `TXTYPE` or `TXN` and no other register. -/
theorem writeRegister_eq (r : Byte) (v : Half) (s : State) :
    writeRegister r v s =
      if r = 0x01 then some { s with txtype := lo8 v } else if r = 0x02 then some { s with txn := v } else none := by
  unfold writeRegister
  split
  · rename_i h
    have : r = 0x01 := BitVec.eq_of_toNat_eq (by simpa using h)
    simp [this]
  · rename_i h
    have : r = 0x02 := BitVec.eq_of_toNat_eq (by simpa using h)
    simp [this]
  · rename_i h1 h2
    have n1 : r ≠ 0x01 := fun h => h1 (by simp [h])
    have n2 : r ≠ 0x02 := fun h => h2 (by simp [h])
    rw [if_neg n1, if_neg n2]

@[simp] theorem cellExists_iff (s : State) (i : Nat) : cellExists s i = true ↔ i < s.cfg.maxp := by
  simp [cellExists]

@[simp] theorem payloadCountLegal_iff (s : State) :
    payloadCountLegal s = true ↔ 1 ≤ s.txn.toNat ∧ s.txn.toNat ≤ s.cfg.maxp := by
  simp [payloadCountLegal]

@[simp] theorem lengthLegal_iff (s : State) (len : Half) :
    lengthLegal s len = true ↔ 3 ≤ len.toNat ∧ len.toNat - 2 ≤ s.cfg.maxp := by
  simp [lengthLegal]

/-- The expected byte of the address part, as R116 writes it. -/
theorem prefixByte_addr (c : Config) (p : Nat) (h2 : 2 ≤ p) (h5 : p ≤ 5) :
    prefixByte c p = BitVec.extractLsb' (8 * (5 - p)) 8 c.addr := by
  obtain rfl | rfl | rfl | rfl : p = 2 ∨ p = 3 ∨ p = 4 ∨ p = 5 := by omega
  all_goals rfl

end Sys2Proof.Machine
end

