-- ==== Sys2Proof/Laws/Decoder.lean ====
section
/-! SUPPORT. What one received symbol does, by the phase of the frame, and what every symbol leaves unchanged. -/

namespace Sys2Proof.Machine

variable {s t : State} {b : Byte}

theorem rxb_header (hr : s.rxst = .run) (h : s.rxpos.toNat ≤ 1) :
    execRxb b s = .next (rxPrefix .hdr b s) := by
  simp [execRxb, hr, rxbRun, h]

theorem rxb_address (hr : s.rxst = .run) (h2 : 2 ≤ s.rxpos.toNat) (h5 : s.rxpos.toNat ≤ 5) :
    execRxb b s = .next (rxPrefix .addr b s) := by
  have h1 : ¬ s.rxpos.toNat ≤ 1 := by omega
  simp [execRxb, hr, rxbRun, h1, h5]

theorem rxb_type (hr : s.rxst = .run) (h : s.rxpos.toNat = 6) : execRxb b s = .next (rxPackageType b s) := by
  simp [execRxb, hr, rxbRun, h]

theorem rxb_lengthHigh (hr : s.rxst = .run) (h : s.rxpos.toNat = 7) : execRxb b s = .next (rxLengthHigh b s) := by
  simp [execRxb, hr, rxbRun, h]

theorem rxb_lengthLow (hr : s.rxst = .run) (h : s.rxpos.toNat = 8) : execRxb b s = .next (rxLengthLow b s) := by
  simp [execRxb, hr, rxbRun, h]

theorem rxb_payload (hr : s.rxst = .run) (h9 : 9 ≤ s.rxpos.toNat) (hn : s.rxpos.toNat ≤ 8 + s.rxn.toNat)
    (hc : s.rxpos.toNat - 9 < s.cfg.maxp) : execRxb b s = .next (rxPayload b s) := by
  have h1 : ¬ s.rxpos.toNat ≤ 1 := by omega
  have h5 : ¬ s.rxpos.toNat ≤ 5 := by omega
  have h6 : ¬ s.rxpos.toNat = 6 := by omega
  have h7 : ¬ s.rxpos.toNat = 7 := by omega
  have h8 : ¬ s.rxpos.toNat = 8 := by omega
  simp [execRxb, hr, rxbRun, h1, h5, h6, h7, h8, hn, hc]

theorem rxb_checksumHigh (hr : s.rxst = .run) (h9 : 9 ≤ s.rxpos.toNat) (h : s.rxpos.toNat = 9 + s.rxn.toNat) :
    execRxb b s = .next (rxChecksumHigh b s) := by
  have h1 : ¬ 9 + s.rxn.toNat ≤ 1 := by omega
  have h5 : ¬ 9 + s.rxn.toNat ≤ 5 := by omega
  have h6 : ¬ 9 + s.rxn.toNat = 6 := by omega
  have h7 : ¬ 9 + s.rxn.toNat = 7 := by omega
  have h8 : ¬ 9 + s.rxn.toNat = 8 := by omega
  have hn : ¬ 9 + s.rxn.toNat ≤ 8 + s.rxn.toNat := by omega
  simp [execRxb, hr, rxbRun, h, h1, h5, h6, h7, h8, hn]

theorem rxb_checksumLow (hr : s.rxst = .run) (h9 : 9 ≤ s.rxpos.toNat) (h : s.rxpos.toNat = 10 + s.rxn.toNat) :
    execRxb b s = .next (rxChecksumLow b s) := by
  have h1 : ¬ 10 + s.rxn.toNat ≤ 1 := by omega
  have h5 : ¬ 10 + s.rxn.toNat ≤ 5 := by omega
  have h6 : ¬ 10 + s.rxn.toNat = 6 := by omega
  have h7 : ¬ 10 + s.rxn.toNat = 7 := by omega
  have h8 : ¬ 10 + s.rxn.toNat = 8 := by omega
  have hn : ¬ 10 + s.rxn.toNat ≤ 8 + s.rxn.toNat := by omega
  simp [execRxb, hr, rxbRun, h, h1, h5, h6, h7, h8, hn]

/-- Outside `RUN` a byte changes at most `TRAIL` (R143 to R145). -/
theorem rxb_outsideRun (h : s.rxst ≠ .run) :
    execRxb b s = .next (if s.rxst = .done then { s with trail := true } else s) := by
  unfold execRxb
  cases hs : s.rxst <;> simp_all

/-- The phases of a started reception (R133): exactly one of R134 to R141 applies. -/
theorem rxb_phases (hi : RxInv s) (hr : s.rxst = .run) :
    s.rxpos.toNat ≤ 1 ∨ (2 ≤ s.rxpos.toNat ∧ s.rxpos.toNat ≤ 5) ∨ s.rxpos.toNat = 6 ∨ s.rxpos.toNat = 7 ∨
      s.rxpos.toNat = 8 ∨
      (9 ≤ s.rxpos.toNat ∧ s.rxpos.toNat ≤ 8 + s.rxn.toNat ∧ s.rxpos.toNat - 9 < s.cfg.maxp) ∨
      (9 ≤ s.rxpos.toNat ∧ s.rxpos.toNat = 9 + s.rxn.toNat) ∨
      (9 ≤ s.rxpos.toNat ∧ s.rxpos.toNat = 10 + s.rxn.toNat) := by
  by_cases h : s.rxpos.toNat < 9
  · omega
  · obtain ⟨h1, h2, -, h4⟩ := hi.runLate hr (by omega)
    omega

/-- What a received byte can write: the receive side, and of `RXBUF` one cell at most. -/
theorem rxb_frame (h : execRxb b s = .next t) :
    t = { s with
      rxst := t.rxst, rxpos := t.rxpos, rxcs := t.rxcs, rxtype := t.rxtype, rxlen := t.rxlen, rxn := t.rxn,
      rxck := t.rxck, ckpres := t.ckpres, csok := t.csok, trail := t.trail, rxerr := t.rxerr, rxbuf := t.rxbuf } := by
  unfold execRxb rxbRun rxPrefix rxLengthLow at h
  dsimp only at h
  repeat' split at h
  all_goals first | (cases h; rfl) | cases h

/-- What the end of the received data can write: `RXST` and `RXERR`. -/
theorem rxe_frame (h : execRxe s = .next t) : t = { s with rxst := t.rxst, rxerr := t.rxerr } := by
  unfold execRxe at h
  repeat' split at h
  all_goals (cases h; rfl)

/-- `RXE` always answers a next state. -/
theorem rxe_answers (s : State) : ∃ t, execRxe s = .next t := by
  unfold execRxe
  repeat' split
  all_goals exact ⟨_, rfl⟩

/-- A received byte answers a next state from every state that meets the receive side's invariant. -/
theorem rxb_answers (b : Byte) (hi : RxInv s) : ∃ t, execRxb b s = .next t := by
  by_cases hr : s.rxst = .run
  · rcases rxb_phases hi hr with h | h | h | h | h | h | h | h
    · exact ⟨_, rxb_header hr h⟩
    · exact ⟨_, rxb_address hr h.1 h.2⟩
    · exact ⟨_, rxb_type hr h⟩
    · exact ⟨_, rxb_lengthHigh hr h⟩
    · exact ⟨_, rxb_lengthLow hr h⟩
    · exact ⟨_, rxb_payload hr h.1 h.2.1 h.2.2⟩
    · exact ⟨_, rxb_checksumHigh hr h.1 h.2⟩
    · exact ⟨_, rxb_checksumLow hr h.1 h.2⟩
  · exact ⟨_, rxb_outsideRun hr⟩

end Sys2Proof.Machine
end

