-- ==== Sys2Proof/Laws/Encoder.lean ====
section
/-! SUPPORT. What one `EMIT` does, by the phase of the frame, and what every `EMIT` leaves unchanged. -/

namespace Sys2Proof.Machine

variable {s t : State}

theorem emit_prefix (h : s.txpos.toNat ≤ 5) :
    emit s = .next (emitByte (prefixByte s.cfg s.txpos.toNat) s) := by
  simp [emit, h]

theorem emit_type (h : s.txpos.toNat = 6) : emit s = .next (emitSummed s.txtype s) := by
  simp [emit, h]

theorem emit_lengthHigh (h : s.txpos.toNat = 7) : emit s = .next (emitSummed (hi8 (lengthField s.txn)) s) := by
  simp [emit, h]

theorem emit_lengthLow (h : s.txpos.toNat = 8) : emit s = .next (emitSummed (lo8 (lengthField s.txn)) s) := by
  simp [emit, h]

theorem emit_payload (h9 : 9 ≤ s.txpos.toNat) (hn : s.txpos.toNat ≤ 8 + s.txn.toNat)
    (hc : s.txpos.toNat - 9 < s.cfg.maxp) :
    emit s = .next (emitSummed (txCell s (s.txpos.toNat - 9)) s) := by
  have h5 : ¬ s.txpos.toNat ≤ 5 := by omega
  have h6 : ¬ s.txpos.toNat = 6 := by omega
  have h7 : ¬ s.txpos.toNat = 7 := by omega
  have h8 : ¬ s.txpos.toNat = 8 := by omega
  simp [emit, h5, h6, h7, h8, hn, hc]

theorem emit_checksumHigh (h : s.txpos.toNat = 9 + s.txn.toNat) : emit s = .next (emitByte (hi8 s.txcs) s) := by
  have h5 : ¬ 9 + s.txn.toNat ≤ 5 := by omega
  have h6 : ¬ 9 + s.txn.toNat = 6 := by omega
  have h7 : ¬ 9 + s.txn.toNat = 7 := by omega
  have h8 : ¬ 9 + s.txn.toNat = 8 := by omega
  have hn : ¬ 9 + s.txn.toNat ≤ 8 + s.txn.toNat := by omega
  simp [emit, h, h5, h6, h7, h8, hn]

theorem emit_checksumLow (h : s.txpos.toNat = 10 + s.txn.toNat) :
    emit s = .next { emitByte (lo8 s.txcs) s with txbusy := false } := by
  have h5 : ¬ 10 + s.txn.toNat ≤ 5 := by omega
  have h6 : ¬ 10 + s.txn.toNat = 6 := by omega
  have h7 : ¬ 10 + s.txn.toNat = 7 := by omega
  have h8 : ¬ 10 + s.txn.toNat = 8 := by omega
  have hn : ¬ 10 + s.txn.toNat ≤ 8 + s.txn.toNat := by omega
  simp [emit, h, h5, h6, h7, h8, hn]

/-- Every `EMIT` that answers emits one byte, advances `TXPOS`, may write `TXCS` and `TXBUSY`, and touches nothing
else. -/
theorem emit_frame (h : emit s = .next t) :
    ∃ o, t = { s with txout := s.txout ++ [o], txpos := s.txpos + 1, txcs := t.txcs, txbusy := t.txbusy } := by
  unfold emit at h
  dsimp only at h
  repeat' split at h
  all_goals first | (cases h; exact ⟨_, rfl⟩) | cases h

/-- In a started frame an `EMIT` answers a next state; `TXBUSY` stays 1 until the last byte (R114 to R120). -/
theorem emit_answers (hi : TxInv s) (hb : s.txbusy = true) :
    ∃ t, emit s = .next t ∧ (t.txbusy = true ↔ s.txpos.toNat < 10 + s.txn.toNat) := by
  obtain ⟨h1, hm, hp⟩ := hi.busy hb
  have phases : s.txpos.toNat ≤ 5 ∨ s.txpos.toNat = 6 ∨ s.txpos.toNat = 7 ∨ s.txpos.toNat = 8 ∨
      (9 ≤ s.txpos.toNat ∧ s.txpos.toNat ≤ 8 + s.txn.toNat) ∨ s.txpos.toNat = 9 + s.txn.toNat ∨
      s.txpos.toNat = 10 + s.txn.toNat := by omega
  rcases phases with h | h | h | h | h | h | h
  · exact ⟨_, emit_prefix h, by simp [hb]; omega⟩
  · exact ⟨_, emit_type h, by simp [hb]; omega⟩
  · exact ⟨_, emit_lengthHigh h, by simp [hb]; omega⟩
  · exact ⟨_, emit_lengthLow h, by simp [hb]; omega⟩
  · exact ⟨_, emit_payload h.1 h.2 (by omega), by simp [hb]; omega⟩
  · exact ⟨_, emit_checksumHigh h, by simp [hb]; omega⟩
  · exact ⟨_, emit_checksumLow h, by simp; omega⟩

end Sys2Proof.Machine
end

