-- ==== Sys2Proof/Laws/Encoding.lean ====
section
/-! SUPPORT. The fields of a word are the fields it was built from. -/

namespace Sys2Proof

theorem commandWord_toNat (op : Byte) (a : Half) (b : Byte) :
    (commandWord op a b).toNat = op.toNat * 2 ^ 24 + a.toNat * 2 ^ 8 + b.toNat := by
  have ha := a.isLt
  have hb := b.isLt
  have h1 := Nat.two_pow_add_eq_or_of_lt ha op.toNat
  have h2 := Nat.two_pow_add_eq_or_of_lt hb (2 ^ 16 * op.toNat + a.toNat)
  simp only [commandWord, BitVec.toNat_append, Nat.shiftLeft_eq]
  rw [Nat.mul_comm op.toNat (2 ^ 16), ← h1, Nat.mul_comm _ (2 ^ 8), ← h2]
  omega

theorem CommandWord.op_toNat (cw : CommandWord) : (CommandWord.op cw).toNat = cw.toNat / 2 ^ 24 := by
  have := cw.isLt
  simp only [CommandWord.op, BitVec.extractLsb'_toNat, Nat.shiftRight_eq_div_pow]
  omega

theorem CommandWord.a_toNat (cw : CommandWord) : (CommandWord.a cw).toNat = cw.toNat / 2 ^ 8 % 2 ^ 16 := by
  simp [CommandWord.a, BitVec.extractLsb'_toNat, Nat.shiftRight_eq_div_pow]

theorem CommandWord.b_toNat (cw : CommandWord) : (CommandWord.b cw).toNat = cw.toNat % 2 ^ 8 := by
  simp [CommandWord.b, BitVec.extractLsb'_toNat]

@[simp] theorem op_commandWord (op : Byte) (a : Half) (b : Byte) : CommandWord.op (commandWord op a b) = op := by
  apply BitVec.eq_of_toNat_eq
  have := a.isLt; have := b.isLt
  rw [CommandWord.op_toNat, commandWord_toNat]
  omega

@[simp] theorem a_commandWord (op : Byte) (a : Half) (b : Byte) : CommandWord.a (commandWord op a b) = a := by
  apply BitVec.eq_of_toNat_eq
  have := a.isLt; have := b.isLt
  rw [CommandWord.a_toNat, commandWord_toNat]
  omega

@[simp] theorem b_commandWord (op : Byte) (a : Half) (b : Byte) : CommandWord.b (commandWord op a b) = b := by
  apply BitVec.eq_of_toNat_eq
  have := b.isLt
  rw [CommandWord.b_toNat, commandWord_toNat]
  omega

/-- A command word is put back from its three fields (R86: every word has all three). -/
theorem commandWord_fields (cw : CommandWord) :
    commandWord (CommandWord.op cw) (CommandWord.a cw) (CommandWord.b cw) = cw := by
  apply BitVec.eq_of_toNat_eq
  rw [commandWord_toNat, CommandWord.op_toNat, CommandWord.a_toNat, CommandWord.b_toNat]
  omega

/-- Decoding a word built from its fields is the operation map on them (R88). -/
@[simp] theorem decodeCommand_commandWord (op : Byte) (a : Half) (b : Byte) :
    decodeCommand (commandWord op a b) = decodeFields op a b := by
  simp [decodeCommand]

@[simp] theorem e_symbolWord (e : Bool) (d : Byte) : Symbol.e (symbolWord e d) = e := by
  simp only [Symbol.e, symbolWord, BitVec.getLsbD_append]
  cases e <;> rfl

@[simp] theorem d_symbolWord (e : Bool) (d : Byte) : Symbol.d (symbolWord e d) = d := by
  have hd := d.isLt
  apply BitVec.eq_of_toNat_eq
  have h := Nat.two_pow_add_eq_or_of_lt hd (BitVec.ofBool e).toNat
  simp only [Symbol.d, symbolWord, BitVec.extractLsb'_toNat, BitVec.toNat_append, Nat.shiftLeft_eq]
  rw [Nat.mul_comm _ (2 ^ 8), ← h]
  simp only [Nat.shiftRight_zero]
  omega

/-- A receive symbol decodes by its bit 8 (R90). -/
@[simp] theorem decodeSymbol_symbolWord (e : Bool) (d : Byte) :
    decodeSymbol (symbolWord e d) = if e then .rxe else .rxb d := by
  simp [decodeSymbol]

/-- The operation map is defined on the codes below `0x0C` and on no other (R88, R89). -/
theorem decodeFields_error_iff (op : Byte) (a : Half) (b : Byte) :
    (∃ e, decodeFields op a b = .error e) ↔ 0x0C ≤ op.toNat := by
  unfold decodeFields
  split <;> simp_all
  omega

end Sys2Proof
end

