-- ==== Sys2Proof/Laws/HostOps.lean ====
section
/-! SUPPORT. Everything a command word can do. -/

namespace Sys2Proof.Machine

/-- The instruction is a host operation, not a receive symbol. -/
def hostOp : Instr → Bool
  | .nop => true
  | .rdreg _ => true
  | .wrreg _ _ => true
  | .txwr _ _ => true
  | .rxrd _ => true
  | .rxrdw _ => true
  | .encgo => true
  | .decgo => true
  | .csclr => true
  | .csadd _ => true
  | .cscmp _ => true
  | .clrerr => true
  | .rxb _ => false
  | .rxe => false

/-- A command word decodes to a host operation only (R88). -/
theorem decodeCommand_hostOp {cw : CommandWord} {i : Instr} (h : decodeCommand cw = .ok i) : hostOp i = true := by
  unfold decodeCommand decodeFields at h
  split at h
  all_goals first | (cases h; rfl) | cases h

/-- What a host operation `i` can do in state `s`: be refused with one cause, return a value, or write what its rule
says. -/
inductive HostEffect (i : Instr) (s : State) : State → Prop where
  | refused (c : OpError) (hc : c ≠ .none) : HostEffect i s (afterRefusal c s)
  | read (v : Half) (hi : i ≠ .clrerr) : HostEffect i s (afterAccept v s)
  | txtype (v : Half) (hi : i = .wrreg 0x01 v) (hb : s.txbusy = false) :
      HostEffect i s (afterAccept 0 { s with txtype := lo8 v })
  | txn (v : Half) (hi : i = .wrreg 0x02 v) (hb : s.txbusy = false) :
      HostEffect i s (afterAccept 0 { s with txn := v })
  | txwr (k : Half) (b : Byte) (hi : i = .txwr k b) (hb : s.txbusy = false) (hk : k.toNat < s.cfg.maxp) :
      HostEffect i s (afterAccept 0 (txStore k.toNat b s))
  | encgo (hi : i = .encgo) (hb : s.txbusy = false) (h1 : 1 ≤ s.txn.toNat) (hm : s.txn.toNat ≤ s.cfg.maxp) :
      HostEffect i s (afterAccept 0 (startFrame s))
  | decgo (hi : i = .decgo) : HostEffect i s (afterAccept 0 (armDecoder s))
  | csclr (hi : i = .csclr) : HostEffect i s (afterAccept 0 { s with csacc := 0 })
  | csadd (b : Byte) (hi : i = .csadd b) : HostEffect i s (afterAccept 0 { s with csacc := addByte s.csacc b })
  | clrerr (hi : i = .clrerr) : HostEffect i s (afterAccept 0 (clearRefusal s))

/-- Every host operation answers a next state, with one of these effects. -/
theorem exec_hostEffect (i : Instr) (s : State) (hi : hostOp i = true) :
    ∃ t, exec i s = .next t ∧ HostEffect i s t := by
  cases i with
  | nop => exact ⟨_, rfl, .read 0 (by simp)⟩
  | rdreg r =>
    simp only [exec, execRdreg]
    split
    · exact ⟨_, refuse_eq _ _, .refused .badreg (by simp)⟩
    · exact ⟨_, accept_eq _ _, .read _ (by simp)⟩
  | wrreg r v =>
    simp only [exec, execWrreg, writeRegister_eq]
    by_cases h1 : r = 0x01
    · subst h1
      by_cases hb : s.txbusy = true
      · exact ⟨afterRefusal .txbusy s, by simp [hb], .refused .txbusy (by simp)⟩
      · refine ⟨_, ?_, .txtype v rfl (by simpa using hb)⟩
        simp [hb]
    · by_cases h2 : r = 0x02
      · subst h2
        by_cases hb : s.txbusy = true
        · exact ⟨afterRefusal .txbusy s, by simp [hb], .refused .txbusy (by simp)⟩
        · refine ⟨_, ?_, .txn v rfl (by simpa using hb)⟩
          simp [hb]
      · rw [if_neg h1, if_neg h2]
        exact ⟨_, refuse_eq _ _, .refused .badreg (by simp)⟩
  | txwr k b =>
    simp only [exec, execTxwr]
    cases hb : s.txbusy
    · by_cases hk : k.toNat < s.cfg.maxp
      · simp only [hk, cellExists_iff, if_true]
        exact ⟨_, accept_eq _ _, .txwr k b rfl hb hk⟩
      · simp only [hk, cellExists_iff, if_false]
        exact ⟨_, refuse_eq _ _, .refused .index (by simp)⟩
    · exact ⟨_, refuse_eq _ _, .refused .txbusy (by simp)⟩
  | rxrd k =>
    simp only [exec, execRxrd]
    split
    · exact ⟨_, accept_eq _ _, .read _ (by simp)⟩
    · exact ⟨_, refuse_eq _ _, .refused .index (by simp)⟩
  | rxrdw k =>
    simp only [exec, execRxrdw]
    split
    · exact ⟨_, accept_eq _ _, .read _ (by simp)⟩
    · exact ⟨_, refuse_eq _ _, .refused .index (by simp)⟩
  | encgo =>
    simp only [exec, execEncgo]
    cases hb : s.txbusy
    · by_cases h : 1 ≤ s.txn.toNat ∧ s.txn.toNat ≤ s.cfg.maxp
      · simp only [h, payloadCountLegal_iff, and_self, if_true]
        exact ⟨_, accept_eq _ _, .encgo rfl hb h.1 h.2⟩
      · simp only [h, payloadCountLegal_iff, if_false]
        exact ⟨_, refuse_eq _ _, .refused .txrange (by simp)⟩
    · exact ⟨_, refuse_eq _ _, .refused .txbusy (by simp)⟩
  | decgo => exact ⟨_, rfl, .decgo rfl⟩
  | csclr => exact ⟨_, rfl, .csclr rfl⟩
  | csadd b => exact ⟨_, rfl, .csadd b rfl⟩
  | cscmp v => exact ⟨_, accept_eq _ _, .read _ (by simp)⟩
  | clrerr => exact ⟨_, rfl, .clrerr rfl⟩
  | rxb b => simp [hostOp] at hi
  | rxe => simp [hostOp] at hi

/-- Every command word answers a next state: the effect of the operation it decodes to, or a refusal with `ILLOP`. -/
theorem hostEvent_effect (cw : CommandWord) (s : State) :
    ∃ t, hostEvent cw s = .next t ∧
      ((∃ i, decodeCommand cw = .ok i ∧ HostEffect i s t) ∨
        ((∃ e, decodeCommand cw = .error e) ∧ t = afterRefusal .illop s)) := by
  unfold hostEvent
  cases hd : decodeCommand cw with
  | ok i =>
    obtain ⟨t, ht, he⟩ := exec_hostEffect i s (decodeCommand_hostOp hd)
    exact ⟨t, ht, .inl ⟨i, rfl, he⟩⟩
  | error e => exact ⟨_, refuse_eq _ _, .inr ⟨⟨e, rfl⟩, rfl⟩⟩

end Sys2Proof.Machine
end

