-- ==== Sys2Proof/Laws/PerInstr.lean ====
section
/-! SUPPORT. Statements made of every instruction: the encoded word carries its row of spec/opcode_table.json. -/

namespace Sys2Proof.Laws.RowMatch

/-- The row's fixed bits: its "mask". -/
def mask : Instr → PortWord
  | .nop => .command 0xFF000000
  | .rdreg _ => .command 0xFF000000
  | .wrreg _ _ => .command 0xFF000000
  | .txwr _ _ => .command 0xFF000000
  | .rxrd _ => .command 0xFF000000
  | .rxrdw _ => .command 0xFF000000
  | .encgo => .command 0xFF000000
  | .decgo => .command 0xFF000000
  | .csclr => .command 0xFF000000
  | .csadd _ => .command 0xFF000000
  | .cscmp _ => .command 0xFF000000
  | .clrerr => .command 0xFF000000
  | .rxb _ => .symbol 0x100
  | .rxe => .symbol 0x100

/-- What those bits are: the row's "match". -/
def value : Instr → PortWord
  | .nop => .command 0x00000000
  | .rdreg _ => .command 0x01000000
  | .wrreg _ _ => .command 0x02000000
  | .txwr _ _ => .command 0x03000000
  | .rxrd _ => .command 0x04000000
  | .rxrdw _ => .command 0x05000000
  | .encgo => .command 0x06000000
  | .decgo => .command 0x07000000
  | .csclr => .command 0x08000000
  | .csadd _ => .command 0x09000000
  | .cscmp _ => .command 0x0A000000
  | .clrerr => .command 0x0B000000
  | .rxb _ => .symbol 0x000
  | .rxe => .symbol 0x100

/-- A port word has a row's fixed bits. -/
def Carries : PortWord → PortWord → PortWord → Prop
  | .command w, .command m, .command v => w &&& m = v
  | .symbol w, .symbol m, .symbol v => w &&& m = v
  | .command _, .command _, .symbol _ => False
  | .command _, .symbol _, _ => False
  | .symbol _, .symbol _, .command _ => False
  | .symbol _, .command _, _ => False

/-- The instruction's word carries the fixed bits of its row. -/
def Statement (i : Instr) : Prop := Carries (encode i) (mask i) (value i)

/-- A command word's code alone is fixed. -/
theorem commandWord_mask (op : Byte) (a : Half) (b : Byte) :
    commandWord op a b &&& 0xFF000000 = commandWord op 0 0 := by
  have hm : (0xFF000000 : CommandWord) = commandWord 0xFF 0 0 := rfl
  have h8 : op &&& 0xFF = op := BitVec.and_allOnes (x := op)
  have h0 : a &&& 0 = 0 := BitVec.and_zero
  have h0' : b &&& 0 = 0 := BitVec.and_zero
  rw [hm]
  unfold commandWord
  rw [BitVec.and_append, BitVec.and_append, h8, h0, h0']

theorem symbolWord_mask (e : Bool) (d : Byte) : symbolWord e d &&& 0x100 = symbolWord e 0 := by
  have hm : (0x100 : Symbol) = symbolWord true 0 := rfl
  have h0 : d &&& 0 = 0 := BitVec.and_zero
  rw [hm]
  unfold symbolWord
  rw [BitVec.and_append, h0]
  cases e <;> rfl

theorem nop : Statement .nop := commandWord_mask 0x00 0 0
theorem rdreg (r : Byte) : Statement (.rdreg r) := commandWord_mask 0x01 0 r
theorem wrreg (r : Byte) (v : Half) : Statement (.wrreg r v) := commandWord_mask 0x02 v r
theorem txwr (i : Half) (b : Byte) : Statement (.txwr i b) := commandWord_mask 0x03 i b
theorem rxrd (i : Half) : Statement (.rxrd i) := commandWord_mask 0x04 i 0
theorem rxrdw (i : Half) : Statement (.rxrdw i) := commandWord_mask 0x05 i 0
theorem encgo : Statement .encgo := commandWord_mask 0x06 0 0
theorem decgo : Statement .decgo := commandWord_mask 0x07 0 0
theorem csclr : Statement .csclr := commandWord_mask 0x08 0 0
theorem csadd (b : Byte) : Statement (.csadd b) := commandWord_mask 0x09 0 b
theorem cscmp (v : Half) : Statement (.cscmp v) := commandWord_mask 0x0A v 0
theorem clrerr : Statement .clrerr := commandWord_mask 0x0B 0 0
theorem rxb (b : Byte) : Statement (.rxb b) := symbolWord_mask false b
theorem rxe : Statement .rxe := symbolWord_mask true 0

end Sys2Proof.Laws.RowMatch
end

