-- ==== Sys2Proof/Laws/Run.lean ====
section
/-! SUPPORT. Steps, runs and events: how they fit together. -/

namespace Sys2Proof.Machine

@[simp] theorem runSteps_zero (s : State) : runSteps 0 s = .next s := rfl

/-- `runSteps` is the host's `Core.run` of this machine. -/
theorem runSteps_eq_core_run (k : Nat) (s : State) : Host.Core.run Sys2Proof.core k s = runSteps k s := by
  induction k generalizing s with
  | zero => rfl
  | succ k ih =>
    have hc : Sys2Proof.core.step s = step s := rfl
    simp only [Host.Core.run, runSteps]
    rw [hc]
    cases step s with
    | next t => exact ih t
    | fault r => rfl
    | refused r => rfl

/-- A run is a step and then a run. -/
theorem runSteps_next {s t : State} (k : Nat) (h : step s = .next t) : runSteps (k + 1) s = runSteps k t := by
  simp [runSteps, h]

/-- A run is a run and then a run. -/
theorem runSteps_add {s t : State} (j k : Nat) (h : runSteps j s = .next t) : runSteps (j + k) s = runSteps k t := by
  induction j generalizing s with
  | zero => cases h; simp
  | succ j ih =>
    rw [Nat.succ_add]
    cases hs : step s with
    | next u => rw [runSteps_next _ hs] at h ⊢; exact ih h
    | fault r => simp [runSteps, hs] at h
    | refused r => simp [runSteps, hs] at h

/-- A step with something pending is that event. -/
theorem step_pending {s : State} {e : Event} {rest : List Event} (h : s.pending = e :: rest) :
    step s = runEvent e { s with pending := rest } := by
  simp [step, h]

/-- A step with nothing pending is the encoder's turn. -/
theorem step_idle {s : State} (h : s.pending = []) : step s = encoderTurn s := by
  simp [step, h]

/-- No event changes the parameters or what is still pending. -/
theorem runEvent_keeps {e : Event} {s t : State} (h : runEvent e s = .next t) :
    t.cfg = s.cfg ∧ t.pending = s.pending := by
  cases e with
  | host cw =>
    obtain ⟨u, hu, hc⟩ := hostEvent_effect cw s
    simp only [runEvent] at h
    rw [h] at hu
    cases hu
    rcases hc with ⟨i, -, hi⟩ | ⟨-, rfl⟩
    · cases hi <;> simp
    · simp
  | enc =>
    simp only [runEvent, encoderTurn] at h
    split at h
    · obtain ⟨o, ho⟩ := emit_frame h
      rw [ho]
      exact ⟨rfl, rfl⟩
    · cases h
      exact ⟨rfl, rfl⟩
  | rx rs =>
    simp only [runEvent, rxEvent, decodeSymbol] at h
    split at h
    · rw [rxe_frame h]; exact ⟨rfl, rfl⟩
    · rw [rxb_frame h]; exact ⟨rfl, rfl⟩
  | reset p =>
    cases h
    cases p <;> exact ⟨rfl, rfl⟩

end Sys2Proof.Machine
end

