-- ==== Sys2Proof/Tests/Slice0.lean ====
section
/-! SUPPORT. Tests of the model against the words and the vectors of the spec (the vector or rule of each stands in its
comment), and a concrete state and operands for the hypotheses of every statement. -/

namespace Sys2Proof.Tests

open Sys2Proof.Machine

/-! ### Builders -/

/-- The outcome is a next state with the property. -/
def Ends (o : Host.Outcome State Fault Refusal) (p : State → Bool) : Bool :=
  match o with
  | .next t => p t
  | .fault _ => false
  | .refused _ => false

/-- The last result that the host was given. -/
def Returned (t : State) (ok : Bool) (val : Half) : Bool :=
  decide (t.results.getLast? = some { ok := ok, val := val })

/-- One wire payload byte loaded, as in T20 before its `ENCGO`. -/
def loaded : State := { State.reset with txn := 1, txbuf := [(0, 0x01)] }

/-- T20's frame in flight. -/
def sending (pos cs : Half) : State := { loaded with txbusy := true, txpos := pos, txcs := cs }

/-- A reception in progress. -/
def receiving (len n pos : Half) : State :=
  { State.reset with rxst := .run, rxtype := 0x07, rxlen := len, rxn := n, rxpos := pos }

/-- The end state of T40. -/
def acknowledged : State :=
  { State.reset with
    rxst := .done, rxtype := 0x07, rxlen := 3, rxn := 1, rxpos := 0x0C, rxcs := 0x0A, rxck := 0x0A
    ckpres := true, csok := true, rxbuf := [(0, 0x00)] }

/-- The end state of T49. -/
def failed : State := { State.reset with rxst := .err, rxerr := .hdr, rxpos := 1 }

/-- The same state with a list of events to come. -/
def facing (es : List Event) (s : State) : State := { s with pending := es }

/-- The invariant of Safety.lean as a check. -/
def invCheck (s : State) : Bool :=
  Config.wf s.cfg &&
  decide (s.txbusy = true → 1 ≤ s.txn.toNat ∧ s.txn.toNat ≤ s.cfg.maxp ∧ s.txpos.toNat ≤ 10 + s.txn.toNat) &&
  decide (s.txpos.toNat ≤ 11 + s.cfg.maxp) &&
  decide (s.rxst = .run → s.rxpos.toNat < 9 → s.rxn = 0) &&
  decide (s.rxst = .run → 9 ≤ s.rxpos.toNat →
    1 ≤ s.rxn.toNat ∧ s.rxn.toNat ≤ s.cfg.maxp ∧ s.rxlen.toNat = s.rxn.toNat + 2 ∧
      s.rxpos.toNat ≤ 10 + s.rxn.toNat) &&
  decide (s.rxst = .done →
    1 ≤ s.rxn.toNat ∧ s.rxn.toNat ≤ s.cfg.maxp ∧ s.rxlen.toNat = s.rxn.toNat + 2 ∧ s.rxerr = .none ∧
      9 + s.rxn.toNat ≤ s.rxpos.toNat ∧ s.rxpos.toNat ≤ 11 + s.rxn.toNat ∧
      (s.ckpres = true ↔ s.rxpos.toNat = 11 + s.rxn.toNat)) &&
  decide (s.rxst = .err ↔ s.rxerr ≠ .none) &&
  decide (s.csok = true → s.ckpres = true ∧ s.rxst = .done ∧ s.rxcs = s.rxck) &&
  decide (s.trail = true → s.rxst = .done) &&
  decide (s.ckpres = true → s.rxst = .done) &&
  decide (s.rxst = .idle →
    s.rxtype = 0 ∧ s.rxlen = 0 ∧ s.rxn = 0 ∧ s.rxpos = 0 ∧ s.rxcs = 0 ∧ s.rxck = 0 ∧
      s.ckpres = false ∧ s.csok = false ∧ s.trail = false ∧ s.rxerr = .none) &&
  decide (s.rxpos.toNat ≤ 11 + s.cfg.maxp) &&
  decide (s.operr = false ↔ s.operrc = .none) &&
  decide (Memory.wf s.txbuf) && decide (Memory.below s.txbuf s.cfg.maxp) &&
  decide (Memory.wf s.rxbuf) && decide (Memory.below s.rxbuf s.cfg.maxp)

theorem inv_of_check {s : State} (h : invCheck s = true) : MachineInv s := by
  simp only [invCheck, Bool.and_eq_true, decide_eq_true_eq] at h
  obtain ⟨⟨⟨⟨⟨⟨⟨⟨⟨⟨⟨⟨⟨⟨⟨⟨a, b⟩, c⟩, d⟩, e⟩, f⟩, g⟩, i⟩, j⟩, k⟩, l⟩, m⟩, n⟩, o⟩, p⟩, q⟩, r⟩ := h
  exact ⟨a, ⟨b, c⟩, ⟨d, e, f, g, i, j, k, l, m⟩, n, ⟨o, p, q, r⟩⟩

/-! ### Well-formedness: the one check is R7's constraint on `MAXP`. An instruction has no ill-formed term: the types of
its operands are the widths of R86 and R90. -/

theorem test_wf_refuses_maxp_0 : Config.wf { Config.reference with maxp := 0 } = false := by decide
theorem test_wf_refuses_maxp_65525 : Config.wf { Config.reference with maxp := 65525 } = false := by decide
theorem test_wf_takes_maxp_65524 : Config.wf { Config.reference with maxp := 65524 } = true := by decide
theorem test_wf_takes_every_operand : Instr.wf (.wrreg 0xFF 0xFFFF) = true := by decide

/-! ### Decoding: words written out bit by bit from R86, R88 and R90 -/

theorem test_decode_nop : decodeCommand 0b00000000_0000000000000000_00000000 = .ok .nop := by rfl
theorem test_decode_rdreg : decodeCommand 0b00000001_0000000000000000_00001011 = .ok (.rdreg 0x0B) := by rfl
theorem test_decode_wrreg : decodeCommand 0b00000010_0001001000110100_00000001 = .ok (.wrreg 0x01 0x1234) := by rfl
theorem test_decode_txwr : decodeCommand 0b00000011_0000000011111111_01111110 = .ok (.txwr 0x00FF 0x7E) := by rfl
theorem test_decode_rxrd : decodeCommand 0b00000100_0000000100000000_00000000 = .ok (.rxrd 0x0100) := by rfl
theorem test_decode_rxrdw : decodeCommand 0b00000101_0000000000000011_00000000 = .ok (.rxrdw 0x0003) := by rfl
theorem test_decode_encgo : decodeCommand 0b00000110_0000000000000000_00000000 = .ok .encgo := by rfl
theorem test_decode_decgo : decodeCommand 0b00000111_1010101111001101_11101111 = .ok .decgo := by rfl
theorem test_decode_csclr : decodeCommand 0b00001000_0000000000000000_00000000 = .ok .csclr := by rfl
theorem test_decode_csadd : decodeCommand 0b00001001_1111111111111111_10000000 = .ok (.csadd 0x80) := by rfl
theorem test_decode_cscmp : decodeCommand 0b00001010_0000000000000101_00000000 = .ok (.cscmp 0x0005) := by rfl
theorem test_decode_clrerr : decodeCommand 0b00001011_0000000000000000_00000000 = .ok .clrerr := by rfl
theorem test_decode_rxb : decodeSymbol 0b0_11101111 = .rxb 0xEF := by rfl
theorem test_decode_rxe : decodeSymbol 0b1_00000000 = .rxe := by rfl
/-- R89: the least reserved code. -/
theorem test_decode_reserved : decodeCommand 0b00001100_0000000000000000_00000000 = .error (.reservedOp 0x0C) := by
  rfl
theorem test_decode_table_rxe : decodeTableWord 9 0x100 = some .rxe := by decide
theorem test_decode_table_symbol_too_wide : decodeTableWord 16 0x200 = none := by decide
theorem test_decode_table_command : decodeTableWord 32 0x07ABCDEF = some .decgo := by decide

/-! ### One step of each operation and event, with the values of spec/95_test_vectors.md -/

/-- T80. -/
theorem test_nop : Ends (runEvent (.host 0x00FFFFFF) State.reset) (fun t => Returned t true 0) = true := by decide
/-- The end of T40, read as in P2. -/
theorem test_rdreg_status : Ends (runEvent (.host 0x01000000) acknowledged) (fun t => Returned t true 0x001C) = true := by
  decide
/-- T82. -/
theorem test_rdreg_badreg :
    Ends (runEvent (.host 0x0100000C) State.reset) (fun t => Returned t false 0 && decide (statusWord t = 0x2040)) =
      true := by decide
/-- T25. -/
theorem test_wrreg_txtype :
    Ends (runEvent (.host 0x02123401) State.reset) (fun t => Returned t true 0 && decide (t.txtype = 0x34)) = true := by
  decide
/-- T90: `BADREG` before `TXBUSY`. -/
theorem test_wrreg_badreg_first :
    Ends (runEvent (.host 0x0200000C) (sending 3 0)) (fun t => Returned t false 0 && decide (t.operrc = .badreg)) =
      true := by decide
/-- T29. -/
theorem test_txwr_last_cell :
    Ends (runEvent (.host 0x0300FF7E) State.reset) (fun t => Returned t true 0 && decide (txCell t 255 = 0x7E)) =
      true := by decide
/-- T34: `TXBUSY` before `INDEX`. -/
theorem test_txwr_busy_first :
    Ends (runEvent (.host 0x03012C09) (sending 3 0)) (fun t => Returned t false 0 && decide (statusWord t = 0x3041)) =
      true := by decide
/-- T40's `RXRD 0`. -/
theorem test_rxrd : Ends (runEvent (.host 0x04000000) acknowledged) (fun t => Returned t true 0) = true := by decide
/-- T67. -/
theorem test_rxrd_index :
    Ends (runEvent (.host 0x04010000) acknowledged) (fun t => Returned t false 0 && decide (t.operrc = .index)) =
      true := by decide
/-- T41's `RXRDW 3`. -/
theorem test_rxrdw :
    Ends (runEvent (.host 0x05000300) { acknowledged with rxbuf := [(0, 0x00), (1, 0x00), (2, 0x05), (3, 0x00), (4, 0x64)] })
      (fun t => Returned t true 0x0064) = true := by decide
/-- T66. -/
theorem test_rxrdw_index :
    Ends (runEvent (.host 0x0500FF00) acknowledged) (fun t => Returned t false 0 && decide (statusWord t = 0x405C)) =
      true := by decide
/-- T20. -/
theorem test_encgo :
    Ends (runEvent (.host 0x06000000) loaded) (fun t => Returned t true 0 && decide (statusWord t = 0x0001)) = true := by
  decide
/-- T26. -/
theorem test_encgo_txrange :
    Ends (runEvent (.host 0x06000000) State.reset) (fun t => Returned t false 0 && decide (statusWord t = 0x5040)) =
      true := by decide
/-- T69. -/
theorem test_decgo :
    Ends (runEvent (.host 0x07ABCDEF) acknowledged) (fun t => Returned t true 0 && decide (statusWord t = 0x0002)) =
      true := by decide
/-- R102. -/
theorem test_csclr :
    Ends (runEvent (.host 0x08000000) { State.reset with csacc := 0x01FE }) (fun t => decide (t.csacc = 0)) = true := by
  decide
/-- T5: the sum wraps. -/
theorem test_csadd_wraps :
    Ends (runEvent (.host 0x09000001) { State.reset with csacc := 0xFFFF })
      (fun t => Returned t true 0 && decide (t.csacc = 0) && decide (statusWord t = 0)) = true := by decide
/-- T2. -/
theorem test_cscmp_equal :
    Ends (runEvent (.host 0x0A000500) { State.reset with csacc := 0x0005 }) (fun t => Returned t true 1) = true := by
  decide
/-- T3. -/
theorem test_cscmp_unequal :
    Ends (runEvent (.host 0x0A000600) { State.reset with csacc := 0x0005 })
      (fun t => Returned t true 0 && decide (t.operr = false)) = true := by decide
/-- T87. -/
theorem test_clrerr :
    Ends (runEvent (.host 0x0B000000) { sending 3 0 with operr := true, operrc := .txbusy })
      (fun t => Returned t true 0 && decide (statusWord t = 0x0001)) = true := by decide
/-- T86: the first cause is kept. -/
theorem test_reserved_code_keeps_first_cause :
    Ends (runEvent (.host 0x0C000000) { sending 3 0 with operr := true, operrc := .txbusy })
      (fun t => Returned t false 0 && decide (statusWord t = 0x3041)) = true := by decide
/-- T49. -/
theorem test_rxb_header_mismatch :
    Ends (runEvent (.rx 0x002) (receiving 0 0 1)) (fun t => decide (statusWord t = 0x0106) && decide (t.rxpos = 1)) =
      true := by decide
/-- T57, its ninth byte: the largest legal length. -/
theorem test_rxb_largest_length :
    Ends (runEvent (.rx 0x002) { receiving 0x0100 0 8 with rxcs := 0x0008 })
      (fun t => decide (statusWord t = 0x0002) && decide (t.rxn = 0x0100) && decide (t.rxcs = 0x000A)) = true := by
  decide
/-- T43: the checksum may be missing. -/
theorem test_rxe_without_checksum :
    Ends (runEvent (.rx 0x100) (receiving 3 1 0x0A)) (fun t => decide (statusWord t = 0x0004)) = true := by decide
/-- T46. -/
theorem test_rxe_short :
    Ends (runEvent (.rx 0x100) (receiving 3 1 9)) (fun t => decide (statusWord t = 0x0406) && decide (t.rxpos = 9)) =
      true := by decide
/-- T20, step 9: the low length byte. -/
theorem test_emit_length :
    Ends (runEvent .enc (sending 8 0x0001)) (fun t => decide (t.txout = [0x03]) && decide (t.txcs = 0x0004)) = true := by
  decide
/-- T20, step 12: the last byte. -/
theorem test_emit_last :
    Ends (runEvent .enc (sending 0x0B 0x0005))
      (fun t => decide (t.txout = [0x05]) && decide (t.txpos = 0x0C) && decide (t.txbusy = false)) = true := by decide
/-- T92, and T35's "`TXBUF[0]` still 01". -/
theorem test_reset :
    Ends (runEvent (.reset false) { sending 3 0 with operr := true, operrc := .txbusy })
      (fun t => decide (statusWord t = 0) && decide (txCell t 0 = 0x01)) = true := by decide

/-! ### Witnesses: the hypotheses of the statements, met -/

theorem witness_DecodeOfEncode_command :
    Instr.wf (.wrreg 0xFF 0xFFFF) = true ∧ encode (.wrreg 0xFF 0xFFFF) = .command 0x02FFFFFF := by decide
theorem witness_DecodeOfEncode_symbol : Instr.wf .rxe = true ∧ encode .rxe = .symbol 0x100 := by decide
theorem witness_EncodeOfDecode : decodeCommand 0x0BFFFFFF = .ok .clrerr := by rfl
theorem witness_ReservedCodes_least : 0x0C ≤ (BitVec.extractLsb' 24 8 (0x0C000000 : CommandWord)).toNat := by decide
theorem witness_ReservedCodes_last_operation :
    (BitVec.extractLsb' 24 8 (0x0BFFFFFF : CommandWord)).toNat < 0x0C := by decide

theorem witness_StepRuns_command :
    (facing [.host 0x0B000000] State.reset).pending = .host 0x0B000000 :: [] ∧
      decodeCommand 0x0B000000 = .ok .clrerr ∧ Instr.wf .clrerr = true := ⟨rfl, rfl, rfl⟩
theorem witness_StepRuns_symbol : (facing [.rx 0x1FF] State.reset).pending = .rx 0x1FF :: [] := by decide
theorem witness_StepRuns_emit :
    (facing [.enc] (sending 0 0)).pending = .enc :: [] ∧ (facing [.enc] (sending 0 0)).txbusy = true := by decide
theorem witness_StepRuns_no_emit :
    (facing [.enc] State.reset).pending = .enc :: [] ∧ (facing [.enc] State.reset).txbusy = false := by decide
theorem witness_StepRuns_reset : (facing [.reset true] State.reset).pending = .reset true :: [] := by decide
theorem witness_StepRuns_nothing_pending_busy : (sending 0 0).pending = [] ∧ (sending 0 0).txbusy = true := by decide
theorem witness_StepRuns_nothing_pending : State.reset.pending = [] ∧ State.reset.txbusy = false := by decide
theorem witness_PresentedTableWord_symbol : decodeTableWord 16 0x1FF = some .rxe := by decide
theorem witness_PresentedTableWord_command : decodeTableWord 32 0x0BFFFFFF = some .clrerr := by decide
theorem witness_PresentedTableWord_reserved : 16 < 32 ∧ 0x0C000000 ≤ 0xFFFFFFFF ∧ 0xFFFFFFFF < 2 ^ 32 := by decide

theorem witness_ResetWrites_both_kinds : ∀ p : Bool, p = false ∨ p = true := by decide

/-- `EveryStepKeepsTheInvariant`: at the last byte of the largest frame. -/
theorem witness_EveryStep :
    MachineInv { sending 266 0 with txn := 256 } ∧ ∃ t, step { sending 266 0 with txn := 256 } = .next t :=
  ⟨inv_of_check (by decide), _, rfl⟩
/-- `NoStepStopsTheMachine`, `EveryReceivedByteIsTaken`: at the last byte of the largest reception. -/
theorem witness_NoStepStops : MachineInv (receiving 0x0102 256 266) := inv_of_check (by decide)

/-- The longest frame that R7 allows, before its last byte, on both sides: both counters at 65534. -/
def longest : State :=
  { receiving 65526 65524 65534 with
    cfg := { Config.reference with maxp := 65524 }, txbusy := true, txn := 65524, txpos := 65534 }
/-- `PositionCountersNeverWrap`, the two advances where a 16-bit counter is closest to its end: both reach 65535. -/
theorem witness_Counters_advance :
    MachineInv longest ∧ longest.txbusy = true ∧ longest.rxst = .run ∧
      Event.received (.rx 0x000) = some (.rxb 0x00) ∧ ¬ longest.rxpos.toNat ≤ 5 ∧
      Ends (runEvent .enc longest) (fun t => decide (t.txpos.toNat = 65535)) = true ∧
      Ends (runEvent (.rx 0x000) longest) (fun t => decide (t.rxpos.toNat = 65535)) = true :=
  ⟨inv_of_check (by decide), by decide, by decide, by rfl, by decide, by decide, by decide⟩
/-- The same at the last byte of the prefix that is compared: it is accepted when it equals the expected byte. -/
theorem witness_Counters_compared :
    MachineInv (receiving 0 0 5) ∧ (0xFF : Byte) = prefixByte (receiving 0 0 5).cfg (receiving 0 0 5).rxpos.toNat ∧
      (0xFE : Byte) ≠ prefixByte (receiving 0 0 5).cfg (receiving 0 0 5).rxpos.toNat ∧
      Ends (runEvent (.rx 0x0FF) (receiving 0 0 5)) (fun t => decide (t.rxpos.toNat = 6)) = true ∧
      Ends (runEvent (.rx 0x0FE) (receiving 0 0 5)) (fun t => decide (t.rxpos = 5)) = true :=
  ⟨inv_of_check (by decide), by decide, by decide, by decide, by decide⟩
/-- The restarts: an accepted `ENCGO` after a frame, a `DECGO` and a `RESET` after a reception. -/
theorem witness_Counters_restart :
    MachineInv { acknowledged with txn := 1, txpos := 12 } ∧ decodeCommand 0x06000000 = .ok .encgo ∧
      decodeCommand 0x07000000 = .ok .decgo ∧ Event.isReset (.reset false) = true ∧
      Ends (runEvent (.host 0x06000000) { acknowledged with txn := 1, txpos := 12 })
        (fun t => decide (t.txpos = 0) && decide (t.rxpos = 12)) = true ∧
      Ends (runEvent (.host 0x07000000) { acknowledged with txn := 1, txpos := 12 })
        (fun t => decide (t.txpos = 12) && decide (t.rxpos = 0)) = true :=
  ⟨inv_of_check (by decide), by rfl, by rfl, by decide, by decide, by decide⟩
/-- No change: a turn of the encoder that is no `EMIT`, and an `ENCGO` that is refused. -/
theorem witness_Counters_stay :
    MachineInv { acknowledged with txn := 0, txpos := 12 } ∧
      Ends (runEvent .enc { acknowledged with txn := 0, txpos := 12 })
        (fun t => decide (t.txpos = 12) && decide (t.rxpos = 12)) = true ∧
      Ends (runEvent (.host 0x06000000) { acknowledged with txn := 0, txpos := 12 })
        (fun t => decide (t.txpos = 12) && decide (t.rxpos = 12)) = true :=
  ⟨inv_of_check (by decide), by decide, by decide⟩

/-- `Selects`: a word of the least code and one of the greatest, with other fields set. -/
theorem witness_Selects :
    BitVec.extractLsb' 24 8 (0x00FFFFFF : CommandWord) = 0x00 ∧ BitVec.extractLsb' 24 8 (0x0BFFFFFF : CommandWord) = 0x0B := by
  decide
theorem witness_Wrreg_idle : State.reset.txbusy = false := by decide
theorem witness_Wrreg_busy : (sending 0 0).txbusy = true := by decide
theorem witness_Rdreg_least_unimplemented : 0x0C ≤ (0x0C : Byte).toNat := by decide
theorem witness_Wrreg_other : (0x00 : Byte) ≠ 0x01 ∧ (0x00 : Byte) ≠ 0x02 ∧ (0x03 : Byte) ≠ 0x01 ∧ (0x03 : Byte) ≠ 0x02 := by
  decide

/-- `RefusedOperationsHaveNoOtherEffect`: a refused word and an accepted one. -/
theorem witness_Refused :
    (∃ t, runEvent (.host 0xFF000000) State.reset = .next t ∧ t.results = [{ ok := false, val := 0 }]) ∧
      ∃ t, runEvent (.host 0) State.reset = .next t ∧ t.results = [{ ok := true, val := 0 }] :=
  ⟨⟨_, rfl, rfl⟩, _, rfl, rfl⟩
/-- `EachRefusalCauseHasItsCondition`: each cause, from an empty record. -/
theorem witness_Causes :
    State.reset.operr = false ∧ State.reset.operrc = .none ∧ (sending 0 0).operr = false ∧
    Ends (runEvent (.host 0x0C000000) State.reset) (fun t => decide (t.operrc = .illop)) = true ∧
    Ends (runEvent (.host 0x0100000C) State.reset) (fun t => decide (t.operrc = .badreg)) = true ∧
    Ends (runEvent (.host 0x02000003) State.reset) (fun t => decide (t.operrc = .badreg)) = true ∧
    Ends (runEvent (.host 0x06000000) (sending 0 0)) (fun t => decide (t.operrc = .txbusy)) = true ∧
    Ends (runEvent (.host 0x02000502) (sending 0 0)) (fun t => decide (t.operrc = .txbusy)) = true ∧
    Ends (runEvent (.host 0x03000009) (sending 0 0)) (fun t => decide (t.operrc = .txbusy)) = true ∧
    Ends (runEvent (.host 0x03010000) State.reset) (fun t => decide (t.operrc = .index)) = true ∧
    Ends (runEvent (.host 0x04010000) State.reset) (fun t => decide (t.operrc = .index)) = true ∧
    Ends (runEvent (.host 0x0500FF00) State.reset) (fun t => decide (t.operrc = .index)) = true ∧
    Ends (runEvent (.host 0x06000000) State.reset) (fun t => decide (t.operrc = .txrange)) = true ∧
    Ends (runEvent (.host 0) State.reset) (fun t => decide (t.operrc = .none)) = true := by decide

theorem witness_StandAlone : (0x0005 : Half) = { State.reset with csacc := 0x0005 }.csacc ∧ (0x0006 : Half) ≠ 0x0005 := by
  decide
theorem witness_ChecksumLaws_order : List.Perm [(0x01 : Byte), 0x02] [0x02, 0x01] := by decide
theorem witness_ChecksumLaws_change : (0x00 : Byte) ≠ 0xFF := by decide

theorem witness_Txwr_last : State.reset.txbusy = false ∧ (0x00FF : Half).toNat < State.reset.cfg.maxp := by decide
theorem witness_Txwr_busy : (sending 0 0).txbusy = true := by decide
theorem witness_Txwr_index : State.reset.txbusy = false ∧ State.reset.cfg.maxp ≤ (0x0100 : Half).toNat := by decide

theorem witness_Encgo_least : loaded.txbusy = false ∧ 1 ≤ loaded.txn.toNat ∧ loaded.txn.toNat ≤ loaded.cfg.maxp := by
  decide
theorem witness_Encgo_greatest :
    1 ≤ { loaded with txn := 256 }.txn.toNat ∧ { loaded with txn := 256 }.txn.toNat ≤ loaded.cfg.maxp := by decide
theorem witness_Encgo_range :
    State.reset.txn = 0 ∧ State.reset.cfg.maxp < { State.reset with txn := 257 }.txn.toNat := by decide

/-- The first and the last offset of each phase of T20's frame. -/
def offsets : List Half := [0, 1, 2, 5, 6, 7, 8, 9, 10, 11]
theorem offsets_checked : offsets.all (fun p => invCheck (sending p 0)) = true := by decide
/-- `EmitSendsTheByteOfEachOffset`. -/
theorem witness_Emit : ∀ p ∈ offsets, TxInv (sending p 0) ∧ (sending p 0).txbusy = true :=
  fun p hp => ⟨(inv_of_check (List.all_eq_true.mp offsets_checked p hp)).tx, rfl⟩
theorem witness_Emit_largest_payload : TxInv { sending 264 0 with txn := 256 } :=
  (inv_of_check (s := { sending 264 0 with txn := 256 }) (by decide)).tx

theorem witness_StartedFrameUndisturbed :
    (sending 0 0).txbusy = true ∧ Event.isEnc (.host 0x02000701) = false ∧ Event.isReset (.host 0x02000701) = false ∧
      Ends (runEvent (.host 0x02000701) (sending 0 0)) (fun _ => true) = true := by decide

/-- Eleven of the encoder's turns, with a refused `WRREG` and a received byte among them. -/
def elevenTurns : List Event :=
  List.replicate 5 .enc ++ [.host 0x02000701, .rx 0x055] ++ List.replicate 6 .enc

/-- `AnEncodedFrameIsEmittedWhole`: both clauses, at the most turns each allows. -/
theorem witness_EncodedFrame :
    MachineInv (facing (elevenTurns ++ [.enc]) loaded) ∧ loaded.txbusy = false ∧ 1 ≤ loaded.txn.toNat ∧
      loaded.txn.toNat ≤ loaded.cfg.maxp ∧ (∃ s₀, exec .encgo (facing (elevenTurns ++ [.enc]) loaded) = .next s₀) ∧
      (∀ e ∈ elevenTurns, Event.isReset e = false) ∧ elevenTurns.countP Event.isEnc = 10 + loaded.txn.toNat :=
  ⟨inv_of_check (by decide), by decide, by decide, by decide, ⟨_, rfl⟩, by decide, by decide⟩
theorem witness_StartedFrameCompletes :
    MachineInv (sending 11 0) ∧ (sending 11 0).txbusy = true ∧ (sending 11 0).pending = [] :=
  ⟨inv_of_check (by decide), by decide, by decide⟩
theorem witness_StreamGrows : ∃ t, step (sending 0 0) = .next t := ⟨_, rfl⟩

theorem witness_HeaderAddress :
    (receiving 0 0 0).rxst = .run ∧ (receiving 0 0 0).rxpos = 0 ∧ (receiving 0 0 1).rxpos = 1 ∧
      (receiving 0 0 2).rxpos.toNat = 2 ∧ (receiving 0 0 5).rxpos.toNat = 5 := by decide
/-- `TypeAndLengthBytesAreLatched`: the positions, and the lengths on both sides of the two limits. -/
theorem witness_TypeLength :
    (receiving 0 0 6).rxst = .run ∧ (receiving 0 0 6).rxpos = 6 ∧ (receiving 0 0 7).rxpos = 7 ∧
      (receiving 0 0 8).rxpos = 8 ∧ (2 : Half).toNat < 3 ∧ 3 ≤ (3 : Half).toNat ∧
      (0x0102 : Half).toNat - 2 ≤ State.reset.cfg.maxp ∧ State.reset.cfg.maxp < (0x0103 : Half).toNat - 2 := by decide
theorem witness_Payload_first : RxInv (receiving 3 1 9) ∧ (receiving 3 1 9).rxst = .run ∧
    9 ≤ (receiving 3 1 9).rxpos.toNat ∧ (receiving 3 1 9).rxpos.toNat ≤ 8 + (receiving 3 1 9).rxn.toNat :=
  ⟨(inv_of_check (by decide)).rx, by decide, by decide, by decide⟩
theorem witness_Payload_last : RxInv (receiving 0x0102 256 264) ∧
    (receiving 0x0102 256 264).rxpos.toNat = 8 + (receiving 0x0102 256 264).rxn.toNat :=
  ⟨(inv_of_check (by decide)).rx, by decide⟩
theorem witness_ChecksumBytes : RxInv (receiving 3 1 10) ∧ RxInv (receiving 3 1 11) ∧ (receiving 3 1 10).rxst = .run ∧
    (receiving 3 1 10).rxpos.toNat = 9 + (receiving 3 1 10).rxn.toNat ∧
    (receiving 3 1 11).rxpos.toNat = 10 + (receiving 3 1 11).rxn.toNat :=
  ⟨(inv_of_check (by decide)).rx, (inv_of_check (by decide)).rx, by decide, by decide, by decide⟩
theorem witness_OutsideRun : acknowledged.rxst = .done ∧ failed.rxst = .err ∧ State.reset.rxst = .idle := by decide
theorem witness_Rxe_complete : (receiving 3 1 10).rxst = .run ∧
    9 + (receiving 3 1 10).rxn.toNat ≤ (receiving 3 1 10).rxpos.toNat := by decide
theorem witness_Rxe_short : (receiving 3 1 9).rxst = .run ∧
    (receiving 3 1 9).rxpos.toNat < 9 + (receiving 3 1 9).rxn.toNat := by decide
theorem witness_Rxe_outside : failed.rxst ≠ .run := by decide
theorem witness_BufferReads :
    (0x00FF : Half).toNat < State.reset.cfg.maxp ∧ State.reset.cfg.maxp ≤ (0x0100 : Half).toNat ∧
      (0x00FE : Half).toNat + 1 < State.reset.cfg.maxp ∧ State.reset.cfg.maxp ≤ (0x00FF : Half).toNat + 1 := by decide

/-- `ReceiveTransitionsAreComplete`: each transition is made. -/
theorem witness_Transitions :
    MachineInv (receiving 3 1 11) ∧ MachineInv failed ∧ MachineInv (receiving 0 0 5) ∧ MachineInv (receiving 0 0 8) ∧
    MachineInv (receiving 3 1 9) ∧
    Ends (runEvent (.reset false) failed) (fun t => decide (t.rxst = .idle)) = true ∧
    Ends (runEvent (.host 0x07000000) failed) (fun t => decide (t.rxst = .run)) = true ∧
    Ends (runEvent (.rx 0x00A) (receiving 3 1 11)) (fun t => decide (t.rxst = .done)) = true ∧
    Ends (runEvent (.rx 0x100) (receiving 3 1 11)) (fun t => decide (t.rxst = .done)) = true ∧
    Ends (runEvent (.rx 0x0FE) (receiving 0 0 5)) (fun t => decide (t.rxst = .err)) = true ∧
    Ends (runEvent (.rx 0x002) (receiving 0 0 8)) (fun t => decide (t.rxst = .err)) = true ∧
    Ends (runEvent (.rx 0x100) (receiving 3 1 9)) (fun t => decide (t.rxst = .err)) = true :=
  ⟨inv_of_check (by decide), inv_of_check (by decide), inv_of_check (by decide), inv_of_check (by decide),
    inv_of_check (by decide), by decide, by decide, by decide, by decide, by decide, by decide, by decide⟩
/-- `TheVerdictDecidesNothingElse`: T40's last byte, and T42's. -/
theorem witness_Verdict : (receiving 3 1 11).rxst = .run ∧ 9 ≤ (receiving 3 1 11).rxpos.toNat ∧
    (receiving 3 1 11).rxpos.toNat = 10 + (receiving 3 1 11).rxn.toNat ∧
    (∃ t, exec (.rxb 0x0A) (receiving 3 1 11) = .next t) ∧ (∃ u, exec (.rxb 0x0B) (receiving 3 1 11) = .next u) ∧
    (0x0A : Byte) ≠ 0x0B :=
  ⟨by decide, by decide, by decide, ⟨_, rfl⟩, ⟨_, rfl⟩, by decide⟩

/-- The events of T43 with a `NOP` among them: the checksum is left out. -/
def bareAnswer : List Event :=
  [.rx 0x0EF, .rx 0x001, .rx 0x0FF, .host 0, .rx 0x0FF, .rx 0x0FF, .rx 0x0FF, .rx 0x007, .rx 0x000, .rx 0x003,
    .rx 0x000, .rx 0x100]

/-- `AWholeDecodeEndsByItsFirstCase`: its hypotheses, with the bytes of T43. -/
theorem witness_WholeDecode :
    MachineInv (facing (bareAnswer ++ [.enc]) State.reset) ∧
      (∃ s₀, exec .decgo (facing (bareAnswer ++ [.enc]) State.reset) = .next s₀) ∧
      (∀ e ∈ bareAnswer, Event.keepsReception e = true) ∧
      bareAnswer.filterMap Event.received =
        [(0xEF : Byte), 0x01, 0xFF, 0xFF, 0xFF, 0xFF, 0x07, 0x00, 0x03, 0x00].map Instr.rxb ++ [.rxe] :=
  ⟨inv_of_check (by decide), ⟨_, rfl⟩, by decide, by decide⟩
/-- The five cases of R150 at their limits: no byte; nine bytes with `L = 2`, with `L = 3` and with `L = MAXP + 3`. -/
theorem witness_WholeDecode_cases :
    PrefixMatches Config.reference [] ∧
      (receivedLength [0xEF, 0x01, 0xFF, 0xFF, 0xFF, 0xFF, 0x07, 0x00, 0x02]).toNat < 3 ∧
      (receivedLength [0xEF, 0x01, 0xFF, 0xFF, 0xFF, 0xFF, 0x07, 0x00, 0x03]).toNat = 1 + 2 ∧
      Config.reference.maxp + 2 < (receivedLength [0xEF, 0x01, 0xFF, 0xFF, 0xFF, 0xFF, 0x07, 0x01, 0x03]).toNat ∧
      (0x00 : Byte) ≠ prefixByte Config.reference 0 ∧ (0xFE : Byte) ≠ prefixByte Config.reference 5 :=
  ⟨fun j _ hl => absurd hl (Nat.not_lt_zero j), by decide, by decide, by decide, by decide, by decide⟩

/-- The three ways the bytes alone decide: a first byte that differs; `L = 2`; T40's twelve bytes. -/
theorem witness_DecidedEarly :
    DecidedEarly Config.reference [0x00] ∧
      DecidedEarly Config.reference [0xEF, 0x01, 0xFF, 0xFF, 0xFF, 0xFF, 0x07, 0x00, 0x02] ∧
      DecidedEarly Config.reference [0xEF, 0x01, 0xFF, 0xFF, 0xFF, 0xFF, 0x07, 0x00, 0x03, 0x00, 0x00, 0x0A] :=
  ⟨.inl ⟨0, by decide, by decide, by decide⟩, .inr (.inl ⟨by unfold PrefixMatches; decide, by decide, by decide⟩),
    .inr (.inr ⟨by unfold PrefixMatches; decide, 1, by decide, by decide, by decide, by decide⟩)⟩

/-- The symbols of P1's frame. -/
def loopback : List Event :=
  [.rx 0x0EF, .rx 0x001, .rx 0x0FF, .rx 0x0FF, .rx 0x0FF, .rx 0x0FF, .rx 0x001, .rx 0x000, .rx 0x003, .rx 0x001,
    .rx 0x000, .rx 0x005, .rx 0x100]

/-- `DecodeOfAnEmittedFrameRecoversIt`: P1's frame (S1), emitted and fed back. -/
theorem witness_RoundTrip : ∃ s₀ s₁ v₀,
    MachineInv (facing (elevenTurns ++ [.enc]) loaded) ∧ loaded.txbusy = false ∧ 1 ≤ loaded.txn.toNat ∧
      loaded.txn.toNat ≤ loaded.cfg.maxp ∧ exec .encgo (facing (elevenTurns ++ [.enc]) loaded) = .next s₀ ∧
      (∀ e ∈ elevenTurns, Event.isReset e = false) ∧ elevenTurns.countP Event.isEnc = 10 + loaded.txn.toNat ∧
      runSteps (elevenTurns.length + 1) s₀ = .next s₁ ∧
      MachineInv (facing loopback State.reset) ∧ (facing loopback State.reset).cfg = loaded.cfg ∧
      exec .decgo (facing loopback State.reset) = .next v₀ ∧ (∀ e ∈ loopback, Event.keepsReception e = true) ∧
      loopback.filterMap Event.received = (s₁.txout.drop loaded.txout.length).map Instr.rxb ++ [.rxe] :=
  ⟨_, _, _, inv_of_check (by decide), by decide, by decide, by decide, rfl, by decide, by decide, rfl,
    inv_of_check (by decide), by decide, rfl, by decide, by rfl⟩

/-- `EachItemIsWrittenOnlyByItsEvents`: one event that writes, for each item. -/
theorem witness_Writers :
    Ends (runEvent (.host 0x02000701) State.reset) (fun t => decide (t.txtype ≠ State.reset.txtype)) = true ∧
    Ends (runEvent (.host 0x02000502) State.reset) (fun t => decide (t.txn ≠ State.reset.txn)) = true ∧
    Ends (runEvent (.host 0x03000009) loaded) (fun t => decide (txCell t 0 ≠ txCell loaded 0)) = true ∧
    Ends (runEvent (.host 0x06000000) loaded) (fun t => decide (t.txbusy ≠ loaded.txbusy)) = true ∧
    Ends (runEvent .enc (sending 0 0)) (fun t => decide (t.txout ≠ [])) = true ∧
    Ends (runEvent (.rx 0x0EF) (receiving 0 0 0)) (fun t => decide (t.rxpos ≠ 0)) = true ∧
    Ends (runEvent (.rx 0x055) { receiving 3 1 9 with rxbuf := [(0, 0x00)] })
      (fun t => decide (rxCell t 0 = 0x55)) = true ∧
    Ends (runEvent (.host 0x09000001) State.reset) (fun t => decide (t.csacc ≠ 0)) = true ∧
    Ends (runEvent (.host 0x0C000000) State.reset) (fun t => decide (t.operr ≠ false)) = true := by decide

/-- `OnlyTheAddressedCellChanges`: an instruction that stores, one that stores to `RXBUF`, and one that stores
nothing. -/
theorem witness_OnlyTheAddressedCell :
    (∃ t, exec (.txwr 0x00FF 0x7E) State.reset = .next t) ∧ State.reset.txbusy = false ∧
      cellExists State.reset (0x00FF : Half).toNat = true ∧ (∃ t, exec (.rxb 0x00) (receiving 3 1 9) = .next t) ∧
      (receiving 3 1 9).rxst = .run ∧ (receiving 3 1 9).rxpos.toNat ≤ 8 + (receiving 3 1 9).rxn.toNat ∧
      ∃ t, exec .nop State.reset = .next t :=
  ⟨⟨_, rfl⟩, by decide, by decide, ⟨_, rfl⟩, by decide, by decide, ⟨_, rfl⟩⟩

/-- `ReadsHaveNoSideEffect`: each of the four reads, accepted and repeated. -/
theorem witness_Reads : ∀ i ∈ [Instr.rdreg 0x00, .rxrd 0x0000, .rxrdw 0x00FE, .cscmp 0x0000],
    ∃ t u v w, exec i acknowledged = .next t ∧ t.results = acknowledged.results ++ [v] ∧ v.ok = true ∧
      exec i t = .next u ∧ u.results = t.results ++ [w] := by
  intro i hi
  simp only [List.mem_cons, List.not_mem_nil, or_false] at hi
  obtain rfl | rfl | rfl | rfl := hi
  all_goals exact ⟨_, _, _, _, rfl, rfl, rfl, rfl, rfl⟩

/-- `EmitAndReceiveCommute`: a frame in flight while one is received. -/
theorem witness_Commute : ∃ t u,
    MachineInv { receiving 3 1 9 with txbusy := true, txn := 1 } ∧
      runEvent .enc { receiving 3 1 9 with txbusy := true, txn := 1 } = .next t ∧ runEvent (.rx 0x000) t = .next u :=
  ⟨_, _, inv_of_check (by decide), rfl, rfl⟩

/-- `ADecodeFailureRecordsItsCause`: each of the four causes. -/
theorem witness_DecodeFailure :
    MachineInv (receiving 0 0 1) ∧ MachineInv (receiving 0 0 5) ∧ MachineInv (receiving 0x0100 0 8) ∧
    MachineInv (receiving 3 1 9) ∧ (receiving 0 0 1).rxst ≠ .err ∧
    Ends (runEvent (.rx 0x002) (receiving 0 0 1)) (fun t => decide (t.rxst = .err ∧ t.rxerr = .hdr)) = true ∧
    Ends (runEvent (.rx 0x0FE) (receiving 0 0 5)) (fun t => decide (t.rxst = .err ∧ t.rxerr = .addr)) = true ∧
    Ends (runEvent (.rx 0x003) (receiving 0x0100 0 8)) (fun t => decide (t.rxst = .err ∧ t.rxerr = .len)) = true ∧
    Ends (runEvent (.rx 0x100) (receiving 3 1 9)) (fun t => decide (t.rxst = .err ∧ t.rxerr = .short)) = true :=
  ⟨inv_of_check (by decide), inv_of_check (by decide), inv_of_check (by decide), inv_of_check (by decide), by decide,
    by decide, by decide, by decide, by decide⟩

end Sys2Proof.Tests
end

section
/-! PROOFS. 00_scope.md: the order of events (R11, R68) and what a step is. -/

namespace Sys2Proof.Machine

/-! ### What each event runs -/

theorem hostEvent_of_decode {cw : CommandWord} {i : Instr} (h : decodeCommand cw = .ok i) (s : State) :
    hostEvent cw s = exec i s := by
  simp [hostEvent, h]

/-- R114: `EMIT` is enabled while `TXBUSY = 1`. -/
theorem encoderTurn_of_busy {s : State} (h : s.txbusy = true) : encoderTurn s = emit s := by
  simp [encoderTurn, h]

/-- R114: no `EMIT` occurs while `TXBUSY = 0` (log entry 4). -/
theorem encoderTurn_of_not_busy {s : State} (h : s.txbusy = false) : encoderTurn s = .next s := by
  simp [encoderTurn, h]

/-- Settles O5: `step_pending` and `step_idle` say which event a step is, and the lemmas above what that event runs.
Taking an event off `pending` leaves `TXBUSY` as it was, so the encoder's turn is decided by the state before. -/
theorem stepRunsTheFirstPendingEvent : Obligations.StepRunsTheFirstPendingEvent := by
  intro s rest
  refine ⟨fun cw i hp hd _ => ?command, fun rs hp => ?symbol, fun hp hb => ?turnBusy, fun hp hb => ?turnIdle,
    fun p hp => ?reset, fun hp hb => ?noneBusy, fun hp hb => ?noneIdle⟩
  case command => exact (step_pending hp).trans (hostEvent_of_decode hd _)
  case symbol => exact step_pending hp
  case turnBusy => exact (step_pending hp).trans (encoderTurn_of_busy hb)
  case turnIdle => exact (step_pending hp).trans (encoderTurn_of_not_busy hb)
  case reset => exact step_pending hp
  case noneBusy => exact (step_idle hp).trans (encoderTurn_of_busy hb)
  case noneIdle => exact (step_idle hp).trans (encoderTurn_of_not_busy hb)

end Sys2Proof.Machine
end

section
/-! PROOFS. 10_state.md: everything an event can do, said once, and what each kind leaves alone. -/

namespace Sys2Proof.Machine

variable {s t : State}

/-! ### What an event can do -/

/-- Everything the event `e` can do in state `s`, by its kind (R11). -/
inductive EventEffect (s : State) : Event → State → Prop where
  | host {cw : CommandWord} {i : Instr} {t : State} (hd : decodeCommand cw = .ok i) (he : HostEffect i s t) :
      EventEffect s (.host cw) t
  | reserved {cw : CommandWord} : EventEffect s (.host cw) (afterRefusal .illop s)
  | turn {t : State} (h : encoderTurn s = .next t) : EventEffect s .enc t
  | symbol {rs : Symbol} {t : State} (h : rxEvent rs s = .next t) : EventEffect s (.rx rs) t
  | reset (powerOn : Bool) : EventEffect s (.reset powerOn) (resetEvent powerOn s)

theorem runEvent_effect {e : Event} (h : runEvent e s = .next t) : EventEffect s e t := by
  cases e with
  | host cw =>
    obtain ⟨u, hu, hc⟩ := hostEvent_effect cw s
    obtain rfl : u = t := by simpa [runEvent, hu] using h
    rcases hc with ⟨i, hd, he⟩ | ⟨-, rfl⟩
    · exact .host hd he
    · exact .reserved
  | enc => exact .turn h
  | rx rs => exact .symbol h
  | reset powerOn => cases h; exact .reset powerOn

/-- A step is one event, with that event taken off `pending`; with nothing pending it is the encoder's turn. -/
theorem step_eq_runEvent (s : State) : ∃ e rest, step s = runEvent e { s with pending := rest } := by
  cases hp : s.pending with
  | nil => exact ⟨.enc, s.pending, step_idle hp⟩
  | cons e rest => exact ⟨e, rest, step_pending hp⟩

theorem encoderTurn_cases (h : encoderTurn s = .next t) :
    (s.txbusy = true ∧ emit s = .next t) ∨ (s.txbusy = false ∧ t = s) := by
  cases hb : s.txbusy with
  | true => exact .inl ⟨rfl, encoderTurn_of_busy hb ▸ h⟩
  | false =>
    rw [encoderTurn_of_not_busy hb] at h
    cases h
    exact .inr ⟨rfl, rfl⟩

/-- A receive symbol is a byte or the end of the received data (R90). -/
theorem decodeSymbol_cases (rs : Symbol) : (∃ b, decodeSymbol rs = .rxb b) ∨ decodeSymbol rs = .rxe := by
  unfold decodeSymbol
  split
  · exact .inr rfl
  · exact .inl ⟨_, rfl⟩

theorem rxEvent_cases {rs : Symbol} (h : rxEvent rs s = .next t) :
    (∃ b, decodeSymbol rs = .rxb b ∧ execRxb b s = .next t) ∨ (decodeSymbol rs = .rxe ∧ execRxe s = .next t) := by
  unfold rxEvent at h
  rcases decodeSymbol_cases rs with ⟨b, hd⟩ | hd <;> rw [hd] at h
  · exact .inl ⟨b, hd, h⟩
  · exact .inr ⟨hd, h⟩

/-- Everything a received byte can do (R132 to R145), by the phase of the frame. -/
inductive ByteEffect (b : Byte) (s : State) : State → Prop where
  | trailing (hd : s.rxst = .done) : ByteEffect b s { s with trail := true }
  | discarded (hr : s.rxst ≠ .run) (hd : s.rxst ≠ .done) : ByteEffect b s s
  | matched (hr : s.rxst = .run) (hp : s.rxpos.toNat ≤ 5) (hb : b = prefixByte s.cfg s.rxpos.toNat) :
      ByteEffect b s (rxAccept s)
  | mismatched (code : RxError) (hc : code ≠ .none) (hr : s.rxst = .run) (hp : s.rxpos.toNat ≤ 5)
      (hb : b ≠ prefixByte s.cfg s.rxpos.toNat) : ByteEffect b s (rxfail code s)
  | packageType (hr : s.rxst = .run) (hp : s.rxpos.toNat = 6) : ByteEffect b s (rxPackageType b s)
  | lengthHigh (hr : s.rxst = .run) (hp : s.rxpos.toNat = 7) : ByteEffect b s (rxLengthHigh b s)
  | lengthLow (len : Half) (hr : s.rxst = .run) (hp : s.rxpos.toNat = 8) (hl : 3 ≤ len.toNat)
      (hm : len.toNat - 2 ≤ s.cfg.maxp) : ByteEffect b s { rxSummed b s with rxlen := len, rxn := len - 2 }
  | badLength (len : Half) (hr : s.rxst = .run) (hp : s.rxpos.toNat = 8) :
      ByteEffect b s (rxfail .len { rxSummed b s with rxlen := len })
  | payload (hr : s.rxst = .run) (h9 : 9 ≤ s.rxpos.toNat) (hp : s.rxpos.toNat ≤ 8 + s.rxn.toNat)
      (hc : s.rxpos.toNat - 9 < s.cfg.maxp) : ByteEffect b s (rxPayload b s)
  | checksumHigh (hr : s.rxst = .run) (h9 : 9 ≤ s.rxpos.toNat) (hp : s.rxpos.toNat = 9 + s.rxn.toNat) :
      ByteEffect b s (rxChecksumHigh b s)
  | checksumLow (hr : s.rxst = .run) (h9 : 9 ≤ s.rxpos.toNat) (hp : s.rxpos.toNat = 10 + s.rxn.toNat) :
      ByteEffect b s (rxChecksumLow b s)

theorem rxPrefix_effect {b : Byte} {code : RxError} (hc : code ≠ .none) (hr : s.rxst = .run)
    (hp : s.rxpos.toNat ≤ 5) : ByteEffect b s (rxPrefix code b s) := by
  unfold rxPrefix
  split
  case isTrue hb => exact .matched hr hp hb
  case isFalse hb => exact .mismatched code hc hr hp hb

theorem rxLengthLow_effect {b : Byte} (hr : s.rxst = .run) (hp : s.rxpos.toNat = 8) :
    ByteEffect b s (rxLengthLow b s) := by
  unfold rxLengthLow
  dsimp only
  split
  case isTrue hl =>
    rw [lengthLegal_iff] at hl
    exact .lengthLow _ hr hp hl.1 hl.2
  case isFalse => exact .badLength _ hr hp

theorem rxbRun_effect {b : Byte} (hr : s.rxst = .run) (h : rxbRun b s = .next t) : ByteEffect b s t := by
  unfold rxbRun at h
  dsimp only at h
  split at h
  · cases h; exact rxPrefix_effect (by simp) hr (by omega)
  split at h
  · cases h; exact rxPrefix_effect (by simp) hr (by omega)
  split at h
  · cases h; exact .packageType hr ‹_›
  split at h
  · cases h; exact .lengthHigh hr ‹_›
  split at h
  · cases h; exact rxLengthLow_effect hr ‹_›
  split at h
  · split at h
    · cases h; exact .payload hr (by omega) ‹_› ((cellExists_iff _ _).mp ‹_›)
    · cases h
  split at h
  · cases h; exact .checksumHigh hr (by omega) ‹_›
  split at h
  · cases h; exact .checksumLow hr (by omega) ‹_›
  · cases h

theorem execRxb_effect {b : Byte} (h : execRxb b s = .next t) : ByteEffect b s t := by
  by_cases hr : s.rxst = .run
  · exact rxbRun_effect hr (by simpa [execRxb, hr] using h)
  · rw [rxb_outsideRun hr] at h
    cases h
    split
    case isTrue hd => exact .trailing hd
    case isFalse hd => exact .discarded hr hd

/-- Everything the end of the received data can do (R146 to R149). -/
theorem execRxe_cases (h : execRxe s = .next t) :
    (s.rxst = .run ∧ 9 + s.rxn.toNat ≤ s.rxpos.toNat ∧ t = { s with rxst := .done }) ∨
      (s.rxst = .run ∧ t = rxfail .short s) ∨ t = s := by
  unfold execRxe at h
  split at h
  · split at h <;> cases h
    · exact .inl ⟨‹_›, ‹_›, rfl⟩
    · exact .inr (.inl ⟨‹_›, rfl⟩)
  all_goals
    cases h
    exact .inr (.inr rfl)

/-! ### What the encoder's turn and a receive symbol leave alone (R70, R71) -/

theorem encoderTurn_frame (h : encoderTurn s = .next t) :
    t = { s with txout := t.txout, txpos := t.txpos, txcs := t.txcs, txbusy := t.txbusy } := by
  rcases encoderTurn_cases h with ⟨-, he⟩ | ⟨-, rfl⟩
  · obtain ⟨o, ho⟩ := emit_frame he
    rw [ho]
  · rfl

theorem rxEvent_frame {rs : Symbol} (h : rxEvent rs s = .next t) :
    t = { s with
      rxst := t.rxst, rxpos := t.rxpos, rxcs := t.rxcs, rxtype := t.rxtype, rxlen := t.rxlen, rxn := t.rxn,
      rxck := t.rxck, ckpres := t.ckpres, csok := t.csok, trail := t.trail, rxerr := t.rxerr, rxbuf := t.rxbuf } := by
  rcases rxEvent_cases h with ⟨b, -, hb⟩ | ⟨-, he⟩
  · exact rxb_frame hb
  · rw [rxe_frame he]

end Sys2Proof.Machine
end

section
/-! PROOFS. 10_state.md: every step keeps the invariant (R49), and none stops the machine. -/

namespace Sys2Proof.Machine

variable {s t : State}

/-! ### The invariant depends on few fields -/

theorem TxInv.of_same (hi : TxInv s) (hc : t.cfg = s.cfg) (hb : t.txbusy = s.txbusy) (hn : t.txn = s.txn)
    (hp : t.txpos = s.txpos) : TxInv t :=
  ⟨by rw [hb, hn, hp, hc]; exact hi.busy, by rw [hp, hc]; exact hi.posBound⟩

/-- With `TXBUSY = 0` only R24's bound on `TXPOS` is left. -/
theorem TxInv.of_idle (hb : t.txbusy = false) (hp : t.txpos.toNat ≤ 11 + t.cfg.maxp) : TxInv t :=
  ⟨fun h => by simp [hb] at h, hp⟩

theorem BufInv.of_same (hi : BufInv s) (hc : t.cfg = s.cfg) (ht : t.txbuf = s.txbuf) (hr : t.rxbuf = s.rxbuf) :
    BufInv t :=
  ⟨ht ▸ hi.txWf, ht ▸ hc ▸ hi.txBelow, hr ▸ hi.rxWf, hr ▸ hc ▸ hi.rxBelow⟩

theorem RxInv.of_same (hi : RxInv s) (hc : t.cfg = s.cfg) (hs : SameRxRegs s t) : RxInv t := by
  obtain ⟨hst, hpos, hcs, htype, hlen, hn, hck, hpres, hok, htrail, herr⟩ := hs
  constructor <;> simp only [hst, hpos, hcs, htype, hlen, hn, hck, hpres, hok, htrail, herr, hc]
  exacts [hi.runEarly, hi.runLate, hi.done, hi.err, hi.csok, hi.trail, hi.ckpresDone, hi.idle, hi.posBound]

/-- No verdict and no failure is recorded: what holds in `RUN`. -/
def Undecided (s : State) : Prop := s.rxerr = .none ∧ s.ckpres = false ∧ s.csok = false ∧ s.trail = false

theorem RxInv.undecided (hi : RxInv s) (hr : s.rxst = .run) : Undecided s := by
  have hpres : s.ckpres = false := by simpa [hr] using hi.ckpresDone
  refine ⟨?_, hpres, ?_, ?_⟩
  · simpa [hr] using hi.err
  · simpa [hpres] using hi.csok
  · simpa [hr] using hi.trail

/-! ### The receive side's invariant, by the decoder state reached -/

theorem RxInv.of_run (hr : t.rxst = .run) (hu : Undecided t) (early : t.rxpos.toNat < 9 → t.rxn = 0)
    (late : 9 ≤ t.rxpos.toNat → 1 ≤ t.rxn.toNat ∧ t.rxn.toNat ≤ t.cfg.maxp ∧ t.rxlen.toNat = t.rxn.toNat + 2 ∧
      t.rxpos.toNat ≤ 10 + t.rxn.toNat) : RxInv t :=
  have ⟨herr, hpres, hok, htrail⟩ := hu
  { runEarly := fun _ => early
    runLate := fun _ => late
    done := by simp [hr]
    err := by simp [hr, herr]
    csok := by simp [hok]
    trail := by simp [htrail]
    ckpresDone := by simp [hpres]
    idle := by simp [hr]
    posBound := by omega }

theorem RxInv.of_err (hr : t.rxst = .err) (he : t.rxerr ≠ .none) (hpres : t.ckpres = false) (hok : t.csok = false)
    (htrail : t.trail = false) (hp : t.rxpos.toNat ≤ 11 + t.cfg.maxp) : RxInv t := by
  constructor <;> simp [hr, he, hpres, hok, htrail, hp]

theorem RxInv.of_done (hr : t.rxst = .done) (h1 : 1 ≤ t.rxn.toNat) (hm : t.rxn.toNat ≤ t.cfg.maxp)
    (hl : t.rxlen.toNat = t.rxn.toNat + 2) (he : t.rxerr = .none) (hp : 9 + t.rxn.toNat ≤ t.rxpos.toNat)
    (hp' : t.rxpos.toNat ≤ 11 + t.rxn.toNat) (hck : t.ckpres = true ↔ t.rxpos.toNat = 11 + t.rxn.toNat)
    (hok : t.csok = true → t.ckpres = true ∧ t.rxcs = t.rxck) : RxInv t where
  runEarly h := by simp [hr] at h
  runLate h := by simp [hr] at h
  done _ := ⟨h1, hm, hl, he, hp, hp', hck⟩
  err := by simp [hr, he]
  csok h := ⟨(hok h).1, hr, (hok h).2⟩
  trail _ := hr
  ckpresDone _ := hr
  idle h := by simp [hr] at h
  posBound := by omega

/-! ### Positions as numbers -/

theorem config_wf_iff (c : Config) : Config.wf c = true ↔ 1 ≤ c.maxp ∧ c.maxp ≤ 65524 := by
  simp [Config.wf]

theorem half_succ_toNat {v : Half} (h : v.toNat < 65535) : (v + 1).toNat = v.toNat + 1 :=
  BitVec.toNat_add_of_lt (Nat.succ_lt_succ h)

/-- R25: in `RUN` another byte can be accepted. -/
theorem RxInv.rxpos_le_of_run (hi : RxInv s) (hr : s.rxst = .run) : s.rxpos.toNat ≤ 10 + s.cfg.maxp := by
  by_cases h : s.rxpos.toNat < 9
  · omega
  · have := hi.runLate hr (by omega)
    omega

theorem RxInv.rxpos_succ (hc : Config.wf s.cfg = true) (hi : RxInv s) (hr : s.rxst = .run) :
    (s.rxpos + 1).toNat = s.rxpos.toNat + 1 := by
  have hp := hi.rxpos_le_of_run hr
  rw [config_wf_iff] at hc
  exact half_succ_toNat (by omega)

/-- R24: a started frame has another byte to emit. -/
theorem TxInv.txpos_succ (hc : Config.wf s.cfg = true) (hi : TxInv s) (hb : s.txbusy = true) :
    (s.txpos + 1).toNat = s.txpos.toNat + 1 := by
  have hp := hi.busy hb
  rw [config_wf_iff] at hc
  exact half_succ_toNat (by omega)

/-! ### The receive side's invariant is kept -/

/-- An accepted byte other than the low length byte and the last one leads from `RUN` to `RUN`. -/
theorem RxInv.advance (hc : Config.wf s.cfg = true) (hi : RxInv s) (hr : s.rxst = .run) (h8 : s.rxpos.toNat ≠ 8)
    (hlast : 9 ≤ s.rxpos.toNat → s.rxpos.toNat < 10 + s.rxn.toNat) (hr' : t.rxst = .run) (hu : Undecided t)
    (hp : t.rxpos = s.rxpos + 1) (hn : t.rxn = s.rxn) (hl : 9 ≤ s.rxpos.toNat → t.rxlen = s.rxlen)
    (hcfg : t.cfg = s.cfg) : RxInv t := by
  have hp' : t.rxpos.toNat = s.rxpos.toNat + 1 := hp ▸ hi.rxpos_succ hc hr
  refine .of_run hr' hu (fun _ => hn ▸ hi.runEarly hr (by omega)) fun h => ?_
  have h9 : 9 ≤ s.rxpos.toNat := by omega
  obtain ⟨h1, hm, hlen, -⟩ := hi.runLate hr h9
  rw [hn, hl h9, hcfg, hp']
  exact ⟨h1, hm, hlen, hlast h9⟩

theorem ByteEffect.keeps_rxInv {b : Byte} (hc : Config.wf s.cfg = true) (hi : RxInv s) (h : ByteEffect b s t) :
    RxInv t := by
  cases h with
  | trailing hd =>
    obtain ⟨h1, hm, hl, he, hp, hp', hck⟩ := hi.done hd
    exact .of_done hd h1 hm hl he hp hp' hck fun h => (hi.csok h).imp_right And.right
  | discarded => exact hi
  | matched hr hp | packageType hr hp | payload hr h9 hp | checksumHigh hr h9 hp =>
    exact hi.advance hc hr (by omega) (by omega) hr (hi.undecided hr) rfl rfl (fun _ => rfl) rfl
  | mismatched code hcode hr _ _ =>
    obtain ⟨-, hpres, hok, htrail⟩ := hi.undecided hr
    exact .of_err rfl hcode hpres hok htrail hi.posBound
  | lengthHigh hr hp =>
    exact hi.advance hc hr (by omega) (by omega) hr (hi.undecided hr) rfl rfl (by omega) rfl
  | lengthLow len hr hp hl hm =>
    have hn : (len - 2).toNat = len.toNat - 2 := BitVec.toNat_sub_of_le (BitVec.le_def.mpr (by simp; omega))
    have hp' : (s.rxpos + 1).toNat = 9 := by rw [hi.rxpos_succ hc hr, hp]
    refine .of_run hr (hi.undecided hr) (fun h => ?_) (fun _ => ?_)
    · simp only [rxSummed_rxpos] at h
      omega
    · simp only [hn, rxSummed_cfg, rxSummed_rxpos, hp']
      omega
  | badLength len hr hp =>
    obtain ⟨-, hpres, hok, htrail⟩ := hi.undecided hr
    refine .of_err rfl (by simp) hpres hok htrail ?_
    simp only [rxfail_rxpos, rxSummed_rxpos, hi.rxpos_succ hc hr, hp]
    omega
  | checksumLow hr h9 hp =>
    obtain ⟨h1, hm, hl, -⟩ := hi.runLate hr h9
    have hp' : (s.rxpos + 1).toNat = 11 + s.rxn.toNat := by rw [hi.rxpos_succ hc hr, hp]; omega
    exact .of_done rfl h1 hm hl (hi.undecided hr).1 (hp' ▸ Nat.add_le_add_right (by decide) _) hp'.le
      (iff_of_true rfl hp') fun h => ⟨rfl, of_decide_eq_true h⟩

theorem execRxe_keeps_rxInv (hi : RxInv s) (h : execRxe s = .next t) : RxInv t := by
  rcases execRxe_cases h with ⟨hr, hp, rfl⟩ | ⟨hr, rfl⟩ | rfl
  · obtain ⟨he, hpres, hok, -⟩ := hi.undecided hr
    obtain ⟨h1, hm, hl, hp'⟩ := hi.runLate hr (by omega)
    exact .of_done rfl h1 hm hl he hp (hp'.trans (Nat.add_le_add_right (by decide) _))
      (iff_of_false (by simp [hpres]) (by simp only; omega)) (by simp [hok])
  · obtain ⟨-, hpres, hok, htrail⟩ := hi.undecided hr
    exact .of_err rfl (by simp) hpres hok htrail hi.posBound
  · exact hi

theorem rxEvent_keeps_rxInv {rs : Symbol} (hc : Config.wf s.cfg = true) (hi : RxInv s)
    (h : rxEvent rs s = .next t) : RxInv t := by
  rcases rxEvent_cases h with ⟨b, -, hb⟩ | ⟨-, he⟩
  · exact (execRxb_effect hb).keeps_rxInv hc hi
  · exact execRxe_keeps_rxInv hi he

/-! ### The buffers' form is kept -/

/-- R138: a payload byte in `RUN` writes one cell that exists, and no other byte writes `RXBUF`. -/
theorem ByteEffect.rxbuf_cases {b : Byte} (h : ByteEffect b s t) :
    t.rxbuf = s.rxbuf ∨
      (s.rxpos.toNat - 9 < s.cfg.maxp ∧ t.rxbuf = Memory.store s.rxbuf (s.rxpos.toNat - 9) b) := by
  cases h with
  | payload _ _ _ hc => exact .inr ⟨hc, rfl⟩
  | _ => exact .inl rfl

theorem rxEvent_keeps_bufInv {rs : Symbol} (hi : BufInv s) (h : rxEvent rs s = .next t) : BufInv t := by
  have hf := rxEvent_frame h
  have hc : t.cfg = s.cfg := by rw [hf]
  have ht : t.txbuf = s.txbuf := by rw [hf]
  have same (hr : t.rxbuf = s.rxbuf) : BufInv t := hi.of_same hc ht hr
  rcases rxEvent_cases h with ⟨b, -, hb⟩ | ⟨-, he⟩
  · rcases (execRxb_effect hb).rxbuf_cases with hr | ⟨hk, hr⟩
    · exact same hr
    · exact ⟨ht ▸ hi.txWf, ht ▸ hc ▸ hi.txBelow, hr ▸ store_wf _ _ _ hi.rxWf,
        hr ▸ hc ▸ store_below _ _ _ _ hi.rxBelow hk⟩
  · exact same (by rw [rxe_frame he])

/-! ### The transmit side's invariant is kept -/

theorem encoderTurn_keeps_txInv (hc : Config.wf s.cfg = true) (hi : TxInv s) (h : encoderTurn s = .next t) :
    TxInv t := by
  rcases encoderTurn_cases h with ⟨hb, he⟩ | ⟨-, rfl⟩
  · obtain ⟨h1, hm, hp⟩ := hi.busy hb
    obtain ⟨u, hu, hbusy⟩ := emit_answers hi hb
    obtain rfl : u = t := by simpa [hu] using he
    obtain ⟨o, hf⟩ := emit_frame he
    have hcfg : u.cfg = s.cfg := by rw [hf]
    have hn : u.txn = s.txn := by rw [hf]
    have hpos : u.txpos.toNat = s.txpos.toNat + 1 :=
      (congrArg (fun x => x.txpos.toNat) hf).trans (hi.txpos_succ hc hb)
    constructor
    · intro hb'
      have := hbusy.mp hb'
      rw [hn, hcfg, hpos]
      omega
    · rw [hcfg, hpos]
      omega
  · exact hi

/-! ### Every event keeps the invariant -/

theorem SameRxRegs.refl (s : State) : SameRxRegs s s :=
  ⟨rfl, rfl, rfl, rfl, rfl, rfl, rfl, rfl, rfl, rfl, rfl⟩

theorem afterAccept_inv (v : Half) (hi : MachineInv s) : MachineInv (afterAccept v s) :=
  ⟨hi.params, hi.tx.of_same rfl rfl rfl rfl, hi.rx.of_same rfl (.refl s), hi.operr, hi.buf.of_same rfl rfl rfl⟩

theorem afterRefusal_inv {c : OpError} (hc : c ≠ .none) (hi : MachineInv s) : MachineInv (afterRefusal c s) := by
  have hcause : (afterRefusal c s).operrc ≠ .none := by
    cases hop : s.operr with
    | true => simpa [hop] using hi.operr
    | false => simpa [hop] using hc
  exact ⟨hi.params, hi.tx.of_same rfl rfl rfl rfl, hi.rx.of_same rfl (.refl s), iff_of_false (by simp) hcause,
    hi.buf.of_same rfl rfl rfl⟩

theorem HostEffect.keeps_inv {i : Instr} (hi : MachineInv s) (he : HostEffect i s t) : MachineInv t := by
  have hrx {u : State} (hc : u.cfg = s.cfg) (hs : SameRxRegs s u) : RxInv u := hi.rx.of_same hc hs
  cases he with
  | refused c hc => exact afterRefusal_inv hc hi
  | read v => exact afterAccept_inv v hi
  | txtype v _ _ =>
    exact afterAccept_inv 0 ⟨hi.params, hi.tx.of_same rfl rfl rfl rfl, hrx rfl (.refl s), hi.operr,
      hi.buf.of_same rfl rfl rfl⟩
  | txn v _ hb =>
    exact afterAccept_inv 0 ⟨hi.params, .of_idle hb hi.tx.posBound, hrx rfl (.refl s), hi.operr,
      hi.buf.of_same rfl rfl rfl⟩
  | txwr k b _ hb hk =>
    exact afterAccept_inv 0 ⟨hi.params, .of_idle hb hi.tx.posBound, hrx rfl (.refl s), hi.operr,
      store_wf _ _ _ hi.buf.txWf, store_below _ _ _ _ hi.buf.txBelow hk, hi.buf.rxWf, hi.buf.rxBelow⟩
  | encgo _ _ h1 hm =>
    exact afterAccept_inv 0 ⟨hi.params, ⟨fun _ => ⟨h1, hm, by simp⟩, by simp⟩, hrx rfl (.refl s), hi.operr,
      hi.buf.of_same rfl rfl rfl⟩
  | decgo _ =>
    exact afterAccept_inv 0 ⟨hi.params, hi.tx.of_same rfl rfl rfl rfl,
      .of_run rfl ⟨rfl, rfl, rfl, rfl⟩ (fun _ => rfl) (by simp), hi.operr, hi.buf.of_same rfl rfl rfl⟩
  | csclr _ =>
    exact afterAccept_inv 0 ⟨hi.params, hi.tx.of_same rfl rfl rfl rfl, hrx rfl (.refl s), hi.operr,
      hi.buf.of_same rfl rfl rfl⟩
  | csadd b _ =>
    exact afterAccept_inv 0 ⟨hi.params, hi.tx.of_same rfl rfl rfl rfl, hrx rfl (.refl s), hi.operr,
      hi.buf.of_same rfl rfl rfl⟩
  | clrerr _ =>
    exact afterAccept_inv 0 ⟨hi.params, hi.tx.of_same rfl rfl rfl rfl, hrx rfl (.refl s), by simp,
      hi.buf.of_same rfl rfl rfl⟩

theorem encoderTurn_keeps_inv (hi : MachineInv s) (h : encoderTurn s = .next t) : MachineInv t := by
  have hf := encoderTurn_frame h
  have hc : t.cfg = s.cfg := by rw [hf]
  have hrx : SameRxRegs s t := by rw [hf]; exact .refl s
  exact ⟨hc ▸ hi.params, encoderTurn_keeps_txInv hi.params hi.tx h, hi.rx.of_same hc hrx,
    by rw [hf]; exact hi.operr, hi.buf.of_same hc (by rw [hf]) (by rw [hf])⟩

theorem rxEvent_keeps_inv {rs : Symbol} (hi : MachineInv s) (h : rxEvent rs s = .next t) : MachineInv t := by
  have hf := rxEvent_frame h
  have hc : t.cfg = s.cfg := by rw [hf]
  exact ⟨hc ▸ hi.params,
    hi.tx.of_same hc (by rw [hf]) (by rw [hf]) (by rw [hf]),
    rxEvent_keeps_rxInv hi.params hi.rx h, by rw [hf]; exact hi.operr, rxEvent_keeps_bufInv hi.buf h⟩

/-- A `RESET` establishes the invariant's registers and flags whatever they were; of the state before it needs the
parameters and the buffers' form alone. -/
theorem resetRegisters_inv (hc : Config.wf s.cfg = true) (hb : BufInv s) : MachineInv (resetRegisters s) :=
  ⟨hc, .of_idle rfl (by simp), by constructor <;> simp, by simp, hb.of_same rfl rfl rfl⟩

theorem bufInv_of_unlisted (ht : s.txbuf = []) (hr : s.rxbuf = []) : BufInv s := by
  constructor <;> simp [ht, hr]

theorem resetEvent_inv (powerOn : Bool) (hi : MachineInv s) : MachineInv (resetEvent powerOn s) := by
  have hreset := resetRegisters_inv hi.params hi.buf
  cases powerOn with
  | false => exact hreset
  | true =>
    exact ⟨hreset.params, hreset.tx.of_same rfl rfl rfl rfl, hreset.rx.of_same rfl (.refl _), hreset.operr,
      bufInv_of_unlisted rfl rfl⟩

theorem EventEffect.keeps_inv {e : Event} (hi : MachineInv s) (h : EventEffect s e t) : MachineInv t := by
  cases h with
  | host _ he => exact he.keeps_inv hi
  | reserved => exact afterRefusal_inv (by simp) hi
  | turn h => exact encoderTurn_keeps_inv hi h
  | symbol h => exact rxEvent_keeps_inv hi h
  | reset powerOn => exact resetEvent_inv powerOn hi

/-- The invariant says nothing about the events to come. -/
theorem MachineInv.pending (hi : MachineInv s) (rest : List Event) : MachineInv { s with pending := rest } :=
  ⟨hi.params, hi.tx.of_same rfl rfl rfl rfl, hi.rx.of_same rfl (.refl s), hi.operr, hi.buf.of_same rfl rfl rfl⟩

/-- Settles O9: a step is one event, and each kind of event keeps each part of the invariant. -/
theorem everyStepKeepsTheInvariant : Obligations.EveryStepKeepsTheInvariant := by
  intro s t hi h
  obtain ⟨e, rest, hs⟩ := step_eq_runEvent s
  exact (runEvent_effect (hs ▸ h)).keeps_inv (hi.pending rest)

/-- Settles O8: the state after reset is a `RESET` of itself, with R7's reference parameters and nothing listed. -/
theorem resetStateMeetsTheInvariant : Obligations.ResetStateMeetsTheInvariant :=
  resetRegisters_inv (s := State.reset) (by decide) (bufInv_of_unlisted rfl rfl)

/-! ### Every event has a next state -/

theorem runEvent_answers (e : Event) (hi : MachineInv s) : ∃ t, runEvent e s = .next t := by
  cases e with
  | host cw => exact (hostEvent_effect cw s).imp fun _ h => h.1
  | enc =>
    cases hb : s.txbusy with
    | true => exact (emit_answers hi.tx hb).imp fun _ h => (encoderTurn_of_busy hb).trans h.1
    | false => exact ⟨s, encoderTurn_of_not_busy hb⟩
  | rx rs =>
    simp only [runEvent, rxEvent]
    rcases decodeSymbol_cases rs with ⟨b, hd⟩ | hd <;> rw [hd]
    · exact rxb_answers b hi.rx
    · exact rxe_answers s
  | reset powerOn => exact ⟨_, rfl⟩

/-- Settles O10: a step is one event, and `EMIT` and a received byte find their one rule by the invariant. -/
theorem noStepStopsTheMachine : Obligations.NoStepStopsTheMachine := by
  intro s hi
  obtain ⟨e, rest, hs⟩ := step_eq_runEvent s
  exact hs ▸ runEvent_answers e (hi.pending rest)

end Sys2Proof.Machine
end

section
/-! PROOFS. 10_state.md: which event writes which item (R51), and the position counters (R24, R25). -/

namespace Sys2Proof.Machine

variable {s t : State} {e : Event}

/-! ### What each kind of event writes -/

theorem Event.hostDoes_of_decode {cw : CommandWord} {i : Instr} (h : decodeCommand cw = .ok i) :
    Event.hostDoes i (.host cw) :=
  ⟨cw, rfl, h⟩

/-- No receive symbol writes the transmit side or what the host's operations write. -/
theorem rxEvent_leaves {rs : Symbol} (h : rxEvent rs s = .next t) : SameTx s t ∧ SameHostSide s t := by
  rw [rxEvent_frame h]
  exact ⟨⟨rfl, rfl, rfl, rfl, rfl, rfl, fun _ => rfl⟩, rfl, rfl, rfl, rfl, rfl⟩

/-- The encoder's turn writes `TXOUT`, `TXPOS`, `TXCS` and `TXBUSY` alone. -/
theorem encoderTurn_leaves (h : encoderTurn s = .next t) :
    t.txtype = s.txtype ∧ t.txn = s.txn ∧ (∀ j, txCell t j = txCell s j) ∧ SameRx s t ∧ SameHostSide s t := by
  rw [encoderTurn_frame h]
  exact ⟨rfl, rfl, fun _ => rfl, ⟨.refl s, fun _ => rfl⟩, rfl, rfl, rfl, rfl, rfl⟩

@[simp] theorem resetEvent_txout (p : Bool) : (resetEvent p s).txout = s.txout := by cases p <;> rfl

@[simp] theorem resetEvent_results (p : Bool) : (resetEvent p s).results = s.results := by cases p <;> rfl

@[simp] theorem resetEvent_txpos (p : Bool) : (resetEvent p s).txpos = 0 := by cases p <;> rfl

@[simp] theorem resetEvent_rxpos (p : Bool) : (resetEvent p s).rxpos = 0 := by cases p <;> rfl

theorem txtype_txn_writers (h : EventEffect s e t) (hne : t.txtype ≠ s.txtype ∨ t.txn ≠ s.txn) :
    (∃ r v, Event.hostDoes (.wrreg r v) e) ∨ Event.isReset e = true := by
  cases h with
  | host hd he =>
    cases he with
    | txtype v hi => exact .inl ⟨_, v, Event.hostDoes_of_decode (hi ▸ hd)⟩
    | txn v hi => exact .inl ⟨_, v, Event.hostDoes_of_decode (hi ▸ hd)⟩
    | _ => simp at hne
  | reserved => simp at hne
  | turn h =>
    obtain ⟨htype, hn, -⟩ := encoderTurn_leaves h
    simp [htype, hn] at hne
  | symbol h =>
    obtain ⟨⟨htype, hn, -⟩, -⟩ := rxEvent_leaves h
    simp [htype, hn] at hne
  | reset => exact .inr rfl

/-- A host operation writes at most the cell of `TXBUF` that an accepted `TXWR` names. -/
theorem HostEffect.txCell_cases {i : Instr} (he : HostEffect i s t) (j : Nat) :
    txCell t j = txCell s j ∨
      ∃ k b, i = .txwr k b ∧ s.txbusy = false ∧ k.toNat < s.cfg.maxp ∧ k.toNat = j := by
  cases he with
  | txwr k b hi hb hk =>
    by_cases hj : j = k.toNat
    · exact .inr ⟨k, b, hi, hb, hk, hj.symm⟩
    · exact .inl (by simp [txCell_txStore, hj])
  | _ => exact .inl rfl

theorem HostEffect.rxCell_eq {i : Instr} (he : HostEffect i s t) (j : Nat) : rxCell t j = rxCell s j := by
  cases he <;> rfl

theorem txCell_writers (h : EventEffect s e t) {j : Nat} (hne : txCell t j ≠ txCell s j) :
    (∃ i b, Event.hostDoes (.txwr i b) e ∧ i.toNat = j) ∨ e = .reset true := by
  cases h with
  | host hd he =>
    obtain ⟨k, b, rfl, -, -, hj⟩ := (he.txCell_cases j).resolve_left hne
    exact .inl ⟨k, b, Event.hostDoes_of_decode hd, hj⟩
  | reserved => simp at hne
  | turn h =>
    obtain ⟨-, -, hcell, -⟩ := encoderTurn_leaves h
    exact absurd (hcell j) hne
  | symbol h =>
    obtain ⟨⟨-, -, -, -, -, -, hcell⟩, -⟩ := rxEvent_leaves h
    exact absurd (hcell j) hne
  | reset p =>
    cases p with
    | true => exact .inr rfl
    | false => exact absurd rfl hne

/-- `TXBUSY`, `TXPOS` and `TXCS` are written by an `ENCGO` that is accepted (R113), an `EMIT` and a `RESET`. -/
theorem encoder_writers (h : EventEffect s e t)
    (hne : t.txbusy ≠ s.txbusy ∨ t.txpos ≠ s.txpos ∨ t.txcs ≠ s.txcs) :
    (Event.hostDoes .encgo e ∧ s.txbusy = false ∧ 1 ≤ s.txn.toNat ∧ s.txn.toNat ≤ s.cfg.maxp) ∨
      (e = .enc ∧ s.txbusy = true) ∨ Event.isReset e = true := by
  cases h with
  | host hd he =>
    cases he with
    | encgo hi hb h1 hm => exact .inl ⟨Event.hostDoes_of_decode (hi ▸ hd), hb, h1, hm⟩
    | _ => simp at hne
  | reserved => simp at hne
  | turn h =>
    rcases encoderTurn_cases h with ⟨hb, -⟩ | ⟨-, rfl⟩
    · exact .inr (.inl ⟨rfl, hb⟩)
    · simp at hne
  | symbol h =>
    obtain ⟨⟨-, -, hpos, hcs, hbusy, -⟩, -⟩ := rxEvent_leaves h
    simp [hpos, hcs, hbusy] at hne
  | reset => exact .inr (.inr rfl)

theorem txout_writers (h : EventEffect s e t) (hne : t.txout ≠ s.txout) : e = .enc := by
  cases h with
  | host _ he => cases he <;> exact absurd rfl hne
  | reserved => exact absurd rfl hne
  | turn => rfl
  | symbol h =>
    obtain ⟨⟨-, -, -, -, -, hout, -⟩, -⟩ := rxEvent_leaves h
    exact absurd hout hne
  | reset p => exact absurd (resetEvent_txout p) hne

theorem rxRegs_writers (h : EventEffect s e t) (hne : ¬ SameRxRegs s t) :
    Event.hostDoes .decgo e ∨ (∃ rs, e = .rx rs) ∨ Event.isReset e = true := by
  cases h with
  | host hd he =>
    cases he with
    | decgo hi => exact .inl (Event.hostDoes_of_decode (hi ▸ hd))
    | _ => exact absurd (.refl s) hne
  | reserved => exact absurd (.refl s) hne
  | turn h =>
    obtain ⟨-, -, -, ⟨hregs, -⟩, -⟩ := encoderTurn_leaves h
    exact absurd hregs hne
  | symbol => exact .inr (.inl ⟨_, rfl⟩)
  | reset => exact .inr (.inr rfl)

/-- R138: a received byte writes at most the cell of `RXBUF` that its position in `RUN` names. -/
theorem ByteEffect.rxCell_cases {b : Byte} (h : ByteEffect b s t) (j : Nat) :
    rxCell t j = rxCell s j ∨
      (s.rxst = .run ∧ 9 ≤ s.rxpos.toNat ∧ s.rxpos.toNat ≤ 8 + s.rxn.toNat ∧ j = s.rxpos.toNat - 9) := by
  cases h with
  | payload hr h9 hp =>
    by_cases hj : j = s.rxpos.toNat - 9
    · exact .inr ⟨hr, h9, hp, hj⟩
    · exact .inl (by simp [rxPayload, rxCell_rxStore, hj])
  | _ => exact .inl rfl

theorem rxCell_writers (h : EventEffect s e t) {j : Nat} (hne : rxCell t j ≠ rxCell s j) :
    (∃ b, Event.received e = some (.rxb b)) ∨ e = .reset true := by
  cases h with
  | host _ he => exact absurd (he.rxCell_eq j) hne
  | reserved => simp at hne
  | turn h =>
    obtain ⟨-, -, -, ⟨-, hcell⟩, -⟩ := encoderTurn_leaves h
    exact absurd (hcell j) hne
  | symbol h =>
    rcases rxEvent_cases h with ⟨b, hd, -⟩ | ⟨-, he⟩
    · exact .inl ⟨b, congrArg some hd⟩
    · exact absurd (by rw [rxe_frame he]; rfl) hne
  | reset p =>
    cases p with
    | true => exact .inr rfl
    | false => exact absurd rfl hne

theorem csacc_writers (h : EventEffect s e t) (hne : t.csacc ≠ s.csacc) :
    Event.hostDoes .csclr e ∨ (∃ b, Event.hostDoes (.csadd b) e) ∨ Event.isReset e = true := by
  cases h with
  | host hd he =>
    cases he with
    | csclr hi => exact .inl (Event.hostDoes_of_decode (hi ▸ hd))
    | csadd b hi => exact .inr (.inl ⟨b, Event.hostDoes_of_decode (hi ▸ hd)⟩)
    | _ => exact absurd rfl hne
  | reserved => exact absurd rfl hne
  | turn h =>
    obtain ⟨-, -, -, -, hacc, -⟩ := encoderTurn_leaves h
    exact absurd hacc hne
  | symbol h =>
    obtain ⟨-, hacc, -⟩ := rxEvent_leaves h
    exact absurd hacc hne
  | reset => exact .inr (.inr rfl)

/-- R176: the refusal record is written by a refused operation, by `CLRERR` and by a `RESET`. -/
theorem refusalRecord_writers (h : EventEffect s e t) (hne : t.operr ≠ s.operr ∨ t.operrc ≠ s.operrc) :
    ((∃ cw, e = .host cw) ∧ t.results = s.results ++ [{ ok := false, val := 0 }]) ∨
      Event.hostDoes .clrerr e ∨ Event.isReset e = true := by
  cases h with
  | host hd he =>
    cases he with
    | refused => exact .inl ⟨⟨_, rfl⟩, rfl⟩
    | clrerr hi => exact .inr (.inl (Event.hostDoes_of_decode (hi ▸ hd)))
    | _ => simp at hne
  | reserved => exact .inl ⟨⟨_, rfl⟩, rfl⟩
  | turn h =>
    obtain ⟨-, -, -, -, -, herr, hcause, -⟩ := encoderTurn_leaves h
    simp [herr, hcause] at hne
  | symbol h =>
    obtain ⟨-, -, herr, hcause, -⟩ := rxEvent_leaves h
    simp [herr, hcause] at hne
  | reset => exact .inr (.inr rfl)

theorem results_writers (h : EventEffect s e t) (hne : t.results ≠ s.results) : ∃ cw, e = .host cw := by
  cases h with
  | host => exact ⟨_, rfl⟩
  | reserved => exact ⟨_, rfl⟩
  | turn h =>
    obtain ⟨-, -, -, -, -, -, -, hres, -⟩ := encoderTurn_leaves h
    exact absurd hres hne
  | symbol h =>
    obtain ⟨-, -, -, -, hres, -⟩ := rxEvent_leaves h
    exact absurd hres hne
  | reset p => exact absurd (resetEvent_results p) hne

/-- Settles O41: one lemma for each item of state, over everything an event can do. -/
theorem eachItemIsWrittenOnlyByItsEvents : Obligations.EachItemIsWrittenOnlyByItsEvents := by
  intro s t e hrun
  have h := runEvent_effect hrun
  refine ⟨txtype_txn_writers h, fun _ => txCell_writers h, fun hne => ?encoder, txout_writers h, rxRegs_writers h,
    fun _ => rxCell_writers h, csacc_writers h, refusalRecord_writers h, results_writers h, runEvent_keeps hrun⟩
  case encoder => exact (encoder_writers h hne).imp And.left (Or.imp_left And.left)

/-- Settles O42: a host operation can store to one cell of `TXBUF`, a received byte to one cell of `RXBUF`. -/
theorem onlyTheAddressedCellChanges : Obligations.OnlyTheAddressedCellChanges := by
  intro i s t h
  cases hop : hostOp i with
  | true =>
    obtain ⟨u, hu, he⟩ := exec_hostEffect i s hop
    obtain rfl : u = t := by simpa [hu] using h
    refine ⟨fun j hj => (he.txCell_cases j).resolve_right ?_, fun j _ => he.rxCell_eq j⟩
    rintro ⟨k, b, hi, hb, hk, hkj⟩
    exact hj k b hi hb ((cellExists_iff _ _).mpr hk) hkj.symm
  | false =>
    cases i with
    | rxb b =>
      have hb : execRxb b s = .next t := h
      refine ⟨fun j _ => by rw [rxb_frame hb]; rfl, fun j hj => ?_⟩
      refine ((execRxb_effect hb).rxCell_cases j).resolve_right ?_
      rintro ⟨hr, h9, hp, hj'⟩
      exact hj b rfl hr h9 hp hj'
    | rxe =>
      have he : execRxe s = .next t := h
      rw [rxe_frame he]
      exact ⟨fun _ _ => rfl, fun _ _ => rfl⟩
    | _ => cases hop

/-! ### The transmit stream and the position counters -/

theorem emit_appends (h : emit s = .next t) : ∃ o, t.txout = s.txout ++ [o] := by
  obtain ⟨o, ho⟩ := emit_frame h
  exact ⟨o, by rw [ho]⟩

theorem emit_txpos (h : emit s = .next t) : t.txpos = s.txpos + 1 := by
  obtain ⟨o, ho⟩ := emit_frame h
  rw [ho]

/-- R47, R114: an `EMIT` appends one byte to `TXOUT`, and no other event writes it. -/
theorem runEvent_txout (h : runEvent e s = .next t) :
    t.txout = s.txout ∨ (s.txbusy = true ∧ ∃ o, t.txout = s.txout ++ [o]) := by
  by_cases hout : t.txout = s.txout
  · exact .inl hout
  · obtain rfl := txout_writers (runEvent_effect h) hout
    rcases encoderTurn_cases h with ⟨hb, hemit⟩ | ⟨-, rfl⟩
    · exact .inr ⟨hb, emit_appends hemit⟩
    · exact absurd rfl hout

/-- Settles O27: a step is one event, and taking it off `pending` writes neither `TXOUT` nor `TXBUSY`. -/
theorem theTransmitStreamOnlyGrows : Obligations.TheTransmitStreamOnlyGrows := by
  intro s t h
  obtain ⟨e, rest, hs⟩ := step_eq_runEvent s
  exact runEvent_txout (s := { s with pending := rest }) (hs ▸ h)

/-- R113: an `ENCGO` with `TXBUSY = 0` and a legal `TXN` is accepted. -/
theorem execEncgo_of_legal (hb : s.txbusy = false) (h1 : 1 ≤ s.txn.toNat) (hm : s.txn.toNat ≤ s.cfg.maxp) :
    execEncgo s = .next (afterAccept 0 (startFrame s)) := by
  simp [execEncgo, hb, h1, hm]

theorem ByteEffect.rxpos_of_accepted {b : Byte} (h : ByteEffect b s t) (hr : s.rxst = .run)
    (hb : s.rxpos.toNat ≤ 5 → b = prefixByte s.cfg s.rxpos.toNat) : t.rxpos = s.rxpos + 1 := by
  cases h with
  | trailing hd => simp [hr] at hd
  | discarded hr' => exact absurd hr hr'
  | mismatched _ _ _ hp hne => exact absurd (hb hp) hne
  | _ => rfl

/-- A byte that moves `RXPOS` is accepted in `RUN` (R133). -/
theorem ByteEffect.accepted_of_rxpos_ne {b : Byte} (h : ByteEffect b s t) (hne : t.rxpos ≠ s.rxpos) :
    s.rxst = .run ∧ (s.rxpos.toNat ≤ 5 → b = prefixByte s.cfg s.rxpos.toNat) := by
  cases h with
  | trailing | discarded | mismatched => exact absurd rfl hne
  | matched hr _ hb => exact ⟨hr, fun _ => hb⟩
  | packageType hr hp | lengthHigh hr hp | lengthLow _ hr hp | badLength _ hr hp => exact ⟨hr, by omega⟩
  | payload hr h9 | checksumHigh hr h9 | checksumLow hr h9 => exact ⟨hr, by omega⟩

theorem rxpos_writers (h : EventEffect s e t) (hne : t.rxpos ≠ s.rxpos) :
    (s.rxst = .run ∧ ∃ b, Event.received e = some (.rxb b) ∧
        (s.rxpos.toNat ≤ 5 → b = prefixByte s.cfg s.rxpos.toNat)) ∨
      Event.hostDoes .decgo e ∨ Event.isReset e = true := by
  have hregs : ¬ SameRxRegs s t := fun ⟨_, hpos, _⟩ => hne hpos
  rcases rxRegs_writers h hregs with harm | ⟨rs, rfl⟩ | hreset
  · exact .inr (.inl harm)
  · cases h with
    | symbol h =>
      rcases rxEvent_cases h with ⟨b, hd, hb⟩ | ⟨-, he⟩
      · obtain ⟨hr, hpre⟩ := (execRxb_effect hb).accepted_of_rxpos_ne hne
        exact .inl ⟨hr, b, congrArg some hd, hpre⟩
      · exact absurd (by rw [rxe_frame he]) hne
  · exact .inr (.inr hreset)

/-- `TXPOS` is 0 after an accepted `ENCGO` and after a `RESET`. -/
theorem txpos_of_restart (h : runEvent e s = .next t)
    (hr : (Event.hostDoes .encgo e ∧ s.txbusy = false ∧ 1 ≤ s.txn.toNat ∧ s.txn.toNat ≤ s.cfg.maxp) ∨
      Event.isReset e = true) : t.txpos = 0 := by
  rcases hr with ⟨⟨cw, rfl, hd⟩, hb, h1, hm⟩ | hreset
  · have hs : runEvent (.host cw) s = .next (afterAccept 0 (startFrame s)) :=
      (hostEvent_of_decode hd s).trans (execEncgo_of_legal hb h1 hm)
    cases hs.symm.trans h
    rfl
  · cases e with
    | reset p => cases h; exact resetEvent_txpos p
    | _ => cases hreset

/-- `RXPOS` is 0 after a `DECGO` and after a `RESET`. -/
theorem rxpos_of_restart (h : runEvent e s = .next t)
    (hr : Event.hostDoes .decgo e ∨ Event.isReset e = true) : t.rxpos = 0 := by
  rcases hr with ⟨cw, rfl, hd⟩ | hreset
  · cases (hostEvent_of_decode hd s).symm.trans h
    rfl
  · cases e with
    | reset p => cases h; exact resetEvent_rxpos p
    | _ => cases hreset

theorem rxpos_of_accepted {b : Byte} (h : runEvent e s = .next t) (hrx : Event.received e = some (.rxb b))
    (hr : s.rxst = .run) (hb : s.rxpos.toNat ≤ 5 → b = prefixByte s.cfg s.rxpos.toNat) :
    t.rxpos = s.rxpos + 1 := by
  cases e with
  | rx rs =>
    have hexec : execRxb b s = .next t := by
      have hd : decodeSymbol rs = .rxb b := Option.some.inj hrx
      simpa [runEvent, rxEvent, hd, exec] using h
    exact (execRxb_effect hexec).rxpos_of_accepted hr hb
  | _ => cases hrx

/-- Settles O11: each counter's writers leave only its own events, and the invariant keeps both sums below 65536. -/
theorem positionCountersNeverWrap : Obligations.PositionCountersNeverWrap := by
  intro s t e hi hrun emits starts accepts arms resets
  have he := runEvent_effect hrun
  have ht : MachineInv t := he.keeps_inv hi
  refine ⟨?emit, txpos_of_restart hrun, ?txStays, ?accept, rxpos_of_restart hrun, ?rxStays, ht.tx.posBound,
    ht.rx.posBound, ?bound⟩
  case emit =>
    rintro ⟨rfl, hb⟩
    have hemit : emit s = .next t := encoderTurn_of_busy hb ▸ hrun
    exact emit_txpos hemit ▸ hi.tx.txpos_succ hi.params hb
  case txStays =>
    intro hemit hstart hreset
    by_contra hne
    rcases encoder_writers he (.inr (.inl hne)) with h | h | h
    · exact hstart h
    · exact hemit h
    · exact hreset h
  case accept =>
    rintro ⟨hr, b, hrx, hb⟩
    exact rxpos_of_accepted hrun hrx hr hb ▸ hi.rx.rxpos_succ hi.params hr
  case rxStays =>
    intro haccept harm hreset
    by_contra hne
    rcases rxpos_writers he hne with h | h | h
    · exact haccept h
    · exact harm h
    · exact hreset h
  case bound =>
    have := (config_wf_iff _).mp ht.params
    omega

end Sys2Proof.Machine
end

section
/-! PROOFS. 10_state.md: `STATUS` (R26). -/

namespace Sys2Proof.Machine

theorem statusWord_rxst (s : State) : BitVec.extractLsb' 1 2 (statusWord s) = RxState.code s.rxst := by
  simp (disch := omega) only [statusWord, BitVec.extractLsb'_append_eq_of_le, BitVec.extractLsb'_append_eq_of_add_le]
  exact BitVec.extractLsb'_eq_self

theorem statusWord_rxerr (s : State) : BitVec.extractLsb' 8 3 (statusWord s) = RxError.code s.rxerr := by
  simp (disch := omega) only [statusWord, BitVec.extractLsb'_append_eq_of_le, BitVec.extractLsb'_append_eq_of_add_le]
  exact BitVec.extractLsb'_eq_self

theorem statusWord_operrc (s : State) : BitVec.extractLsb' 12 4 (statusWord s) = OpError.code s.operrc := by
  simp (disch := omega) only [statusWord, BitVec.extractLsb'_append_eq_of_le]
  exact BitVec.extractLsb'_eq_self

/-- The bits of `STATUS` outside the three fields wider than one bit: the flags and the two zeros. -/
theorem statusWord_bits (s : State) :
    (statusWord s).getLsbD 0 = s.txbusy ∧ (statusWord s).getLsbD 3 = s.ckpres ∧ (statusWord s).getLsbD 4 = s.csok ∧
      (statusWord s).getLsbD 5 = s.trail ∧ (statusWord s).getLsbD 6 = s.operr ∧ (statusWord s).getLsbD 7 = false ∧
      (statusWord s).getLsbD 11 = false := by
  simp only [statusWord, BitVec.getLsbD_append]
  simp

/-- Settles O12: each field of `STATUS` is cut out of the word it was put into. -/
theorem statusIsTheViewOfTheFlags : Obligations.StatusIsTheViewOfTheFlags := by
  intro s
  obtain ⟨hbusy, hpres, hok, htrail, herr, h7, h11⟩ := statusWord_bits s
  refine ⟨hbusy, ?rxst, hpres, hok, htrail, herr, h7, ?rxerr, h11, ?operrc, rfl, fun v => refuse_eq .badreg s⟩
  case rxst => rw [statusWord_rxst]; cases s.rxst <;> rfl
  case rxerr => rw [statusWord_rxerr]; cases s.rxerr <;> rfl
  case operrc => rw [statusWord_operrc]; cases s.operrc <;> rfl

end Sys2Proof.Machine
end

section
/-! PROOFS. 20_memory.md: a started frame is undisturbed (R70), reads have no side effect (R67), and the two sides share
no state (R71). -/

namespace Sys2Proof.Machine

variable {s t : State}

/-! ### A started frame (R70, R123) -/

/-- R70: every host operation that writes the transmit side is refused while `TXBUSY = 1`. -/
theorem HostEffect.sameTx_of_busy {i : Instr} (he : HostEffect i s t) (hb : s.txbusy = true) : SameTx s t := by
  cases he with
  | txtype _ _ hidle => simp [hb] at hidle
  | txn _ _ hidle => simp [hb] at hidle
  | txwr _ _ _ hidle => simp [hb] at hidle
  | encgo _ hidle => simp [hb] at hidle
  | _ => exact ⟨rfl, rfl, rfl, rfl, rfl, rfl, fun _ => rfl⟩

/-- Settles O24: of the events that remain, a receive symbol never writes the transmit side, and a host operation only
while `TXBUSY = 0`. -/
theorem aStartedFrameCannotBeDisturbed : Obligations.AStartedFrameCannotBeDisturbed := by
  intro s t e hb henc hreset hrun
  cases runEvent_effect hrun with
  | host _ he => exact he.sameTx_of_busy hb
  | reserved => exact ⟨rfl, rfl, rfl, rfl, rfl, rfl, fun _ => rfl⟩
  | turn => cases henc
  | symbol h => exact (rxEvent_leaves h).1
  | reset => cases hreset

/-! ### The reads (R67) -/

/-- A read is refused, or accepted with a value that the record of results has no part in. -/
theorem exec_read {i : Instr} (s : State)
    (hi : (∃ r, i = .rdreg r) ∨ (∃ k, i = .rxrd k) ∨ (∃ k, i = .rxrdw k) ∨ (∃ k, i = .cscmp k)) :
    (∃ c, exec i s = .next (afterRefusal c s)) ∨
      ∃ v, exec i s = .next (afterAccept v s) ∧
        ∀ w, exec i (afterAccept w s) = .next (afterAccept v (afterAccept w s)) := by
  obtain ⟨r, rfl⟩ | ⟨k, rfl⟩ | ⟨k, rfl⟩ | ⟨v, rfl⟩ := hi
  case inl =>
    have same : ∀ w, readRegister r (afterAccept w s) = readRegister r s := fun _ => rfl
    cases hr : readRegister r s with
    | none => exact .inl ⟨.badreg, by simp [exec, execRdreg, hr]⟩
    | some v => exact .inr ⟨v, by simp [exec, execRdreg, hr], fun w => by simp [exec, execRdreg, same, hr]⟩
  case inr.inl =>
    by_cases hk : k.toNat < s.cfg.maxp
    · exact .inr ⟨zext16 (rxCell s k.toNat), by simp [exec, execRxrd, hk], fun w => by simp [exec, execRxrd, hk]⟩
    · exact .inl ⟨.index, by simp [exec, execRxrd, hk]⟩
  case inr.inr.inl =>
    by_cases hk : k.toNat + 1 < s.cfg.maxp
    · exact .inr ⟨be16 (rxCell s k.toNat) (rxCell s (k.toNat + 1)), by simp [exec, execRxrdw, hk],
        fun w => by simp [exec, execRxrdw, hk]⟩
    · exact .inl ⟨.index, by simp [exec, execRxrdw, hk]⟩
  case inr.inr.inr => exact .inr ⟨_, rfl, fun _ => rfl⟩

/-- Settles O43: an accepted read adds its result to the record, and the record has no part in what it reads. -/
theorem readsHaveNoSideEffect : Obligations.ReadsHaveNoSideEffect := by
  intro i s t u v w hi ht hv hok hu hw
  rcases exec_read s hi with ⟨c, hrefused⟩ | ⟨val, hfirst, hagain⟩
  case inl =>
    obtain rfl : afterRefusal c s = t := by simpa [hrefused] using ht
    obtain rfl : ⟨false, 0⟩ = v := by simpa using hv
    cases hok
  case inr =>
    obtain rfl : afterAccept val s = t := by simpa [hfirst] using ht
    obtain rfl : afterAccept val (afterAccept val s) = u := by simpa [hagain] using hu
    obtain rfl : ⟨true, val⟩ = v := by simpa using hv
    obtain rfl : ⟨true, val⟩ = w := by simpa using hw
    exact ⟨rfl, rfl⟩

/-! ### What one side writes, carried over to a state of the other (R71) -/

/-- `s` with what the encoder's turn writes taken from `d`. -/
def withEncoderOf (d s : State) : State :=
  { s with txout := d.txout, txpos := d.txpos, txcs := d.txcs, txbusy := d.txbusy }

/-- `s` with what a receive symbol writes taken from `d`. -/
def withReceiverOf (d s : State) : State :=
  { s with
    rxst := d.rxst, rxpos := d.rxpos, rxcs := d.rxcs, rxtype := d.rxtype, rxlen := d.rxlen, rxn := d.rxn
    rxck := d.rxck, ckpres := d.ckpres, csok := d.csok, trail := d.trail, rxerr := d.rxerr, rxbuf := d.rxbuf }

theorem eq_withEncoderOf (h : encoderTurn s = .next t) : t = withEncoderOf t s := encoderTurn_frame h

theorem eq_withReceiverOf {rs : Symbol} (h : rxEvent rs s = .next t) : t = withReceiverOf t s := rxEvent_frame h

/-- R71: the two sides share no state. -/
theorem withEncoderOf_withReceiverOf_comm (d r s : State) :
    withEncoderOf d (withReceiverOf r s) = withReceiverOf r (withEncoderOf d s) := rfl

/-! ### The receive side does not read what the encoder's turn writes -/

theorem rxe_complete (hr : s.rxst = .run) (hp : 9 + s.rxn.toNat ≤ s.rxpos.toNat) :
    execRxe s = .next { s with rxst := .done } := by
  simp [execRxe, hr, hp]

theorem rxe_short (hr : s.rxst = .run) (hp : ¬ 9 + s.rxn.toNat ≤ s.rxpos.toNat) :
    execRxe s = .next (rxfail .short s) := by
  simp only [execRxe, hr, if_neg hp]

theorem rxe_outsideRun (hr : s.rxst ≠ .run) : execRxe s = .next s := by
  unfold execRxe
  cases hs : s.rxst <;> simp_all

theorem withEncoderOf_rxPrefix (d : State) (code : RxError) (b : Byte) :
    withEncoderOf d (rxPrefix code b s) = rxPrefix code b (withEncoderOf d s) :=
  apply_ite (withEncoderOf d) ..

theorem withEncoderOf_rxLengthLow (d : State) (b : Byte) :
    withEncoderOf d (rxLengthLow b s) = rxLengthLow b (withEncoderOf d s) :=
  apply_ite (withEncoderOf d) ..

theorem withEncoderOf_discard (d : State) :
    withEncoderOf d (if s.rxst = .done then { s with trail := true } else s) =
      if (withEncoderOf d s).rxst = .done then { withEncoderOf d s with trail := true } else withEncoderOf d s :=
  apply_ite (withEncoderOf d) ..

theorem execRxb_withEncoderOf (d : State) (b : Byte) (hi : RxInv s) :
    ∃ t, execRxb b s = .next t ∧ execRxb b (withEncoderOf d s) = .next (withEncoderOf d t) := by
  by_cases hr : s.rxst = .run
  · rcases rxb_phases hi hr with h | ⟨h2, h5⟩ | h | h | h | ⟨h9, hn, hc⟩ | ⟨h9, h⟩ | ⟨h9, h⟩
    · exact ⟨_, rxb_header hr h, withEncoderOf_rxPrefix d .hdr b ▸ rxb_header hr h⟩
    · exact ⟨_, rxb_address hr h2 h5, withEncoderOf_rxPrefix d .addr b ▸ rxb_address hr h2 h5⟩
    · exact ⟨_, rxb_type hr h, rxb_type hr h⟩
    · exact ⟨_, rxb_lengthHigh hr h, rxb_lengthHigh hr h⟩
    · exact ⟨_, rxb_lengthLow hr h, withEncoderOf_rxLengthLow d b ▸ rxb_lengthLow hr h⟩
    · exact ⟨_, rxb_payload hr h9 hn hc, rxb_payload hr h9 hn hc⟩
    · exact ⟨_, rxb_checksumHigh hr h9 h, rxb_checksumHigh hr h9 h⟩
    · exact ⟨_, rxb_checksumLow hr h9 h, rxb_checksumLow hr h9 h⟩
  · exact ⟨_, rxb_outsideRun hr, withEncoderOf_discard d ▸ rxb_outsideRun hr⟩

theorem execRxe_withEncoderOf (d s : State) :
    ∃ t, execRxe s = .next t ∧ execRxe (withEncoderOf d s) = .next (withEncoderOf d t) := by
  by_cases hr : s.rxst = .run
  · by_cases hp : 9 + s.rxn.toNat ≤ s.rxpos.toNat
    · exact ⟨_, rxe_complete hr hp, rxe_complete hr hp⟩
    · exact ⟨_, rxe_short hr hp, rxe_short hr hp⟩
  · exact ⟨_, rxe_outsideRun hr, rxe_outsideRun hr⟩

theorem rxEvent_withEncoderOf (d : State) (rs : Symbol) (hi : RxInv s) :
    ∃ t, rxEvent rs s = .next t ∧ rxEvent rs (withEncoderOf d s) = .next (withEncoderOf d t) := by
  unfold rxEvent
  rcases decodeSymbol_cases rs with ⟨b, hd⟩ | hd <;> rw [hd]
  · exact execRxb_withEncoderOf d b hi
  · exact execRxe_withEncoderOf d s

/-! ### The encoder's turn does not read what a receive symbol writes -/

/-- The phases of a started frame: exactly one of R115 to R120 applies. -/
theorem emit_phases (hi : TxInv s) (hb : s.txbusy = true) :
    s.txpos.toNat ≤ 5 ∨ s.txpos.toNat = 6 ∨ s.txpos.toNat = 7 ∨ s.txpos.toNat = 8 ∨
      (9 ≤ s.txpos.toNat ∧ s.txpos.toNat ≤ 8 + s.txn.toNat ∧ s.txpos.toNat - 9 < s.cfg.maxp) ∨
      s.txpos.toNat = 9 + s.txn.toNat ∨ s.txpos.toNat = 10 + s.txn.toNat := by
  obtain ⟨h1, hm, hp⟩ := hi.busy hb
  omega

theorem emit_withReceiverOf (d : State) (hi : TxInv s) (hb : s.txbusy = true) :
    ∃ t, emit s = .next t ∧ emit (withReceiverOf d s) = .next (withReceiverOf d t) := by
  rcases emit_phases hi hb with h | h | h | h | ⟨h9, hn, hc⟩ | h | h
  · exact ⟨_, emit_prefix h, emit_prefix h⟩
  · exact ⟨_, emit_type h, emit_type h⟩
  · exact ⟨_, emit_lengthHigh h, emit_lengthHigh h⟩
  · exact ⟨_, emit_lengthLow h, emit_lengthLow h⟩
  · exact ⟨_, emit_payload h9 hn hc, emit_payload h9 hn hc⟩
  · exact ⟨_, emit_checksumHigh h, emit_checksumHigh h⟩
  · exact ⟨_, emit_checksumLow h, emit_checksumLow h⟩

theorem encoderTurn_withReceiverOf (d : State) (hi : TxInv s) :
    ∃ t, encoderTurn s = .next t ∧ encoderTurn (withReceiverOf d s) = .next (withReceiverOf d t) := by
  cases hb : s.txbusy with
  | true =>
    rw [encoderTurn_of_busy hb, encoderTurn_of_busy (s := withReceiverOf d s) hb]
    exact emit_withReceiverOf d hi hb
  | false => exact ⟨_, encoderTurn_of_not_busy hb, encoderTurn_of_not_busy hb⟩

/-- Settles O44: each side writes the same on a state of the other's, and what they write is disjoint. -/
theorem emitAndReceiveCommute : Obligations.EmitAndReceiveCommute := by
  intro s t u rs hi hturn hsymbol
  obtain ⟨t', hfirst, hsecond⟩ := rxEvent_withEncoderOf t rs hi.rx
  obtain ⟨t₀, ht₀, hturn'⟩ := encoderTurn_withReceiverOf t' hi.tx
  obtain rfl : t₀ = t := Host.Outcome.next.inj (ht₀.symm.trans hturn)
  have hu : u = withEncoderOf t₀ t' := by
    rw [← eq_withEncoderOf hturn] at hsecond
    exact Host.Outcome.next.inj (hsymbol.symm.trans hsecond)
  have hcommute : withReceiverOf t' t₀ = u :=
    calc withReceiverOf t' t₀ = withReceiverOf t' (withEncoderOf t₀ s) := by rw [← eq_withEncoderOf hturn]
      _ = withEncoderOf t₀ (withReceiverOf t' s) := (withEncoderOf_withReceiverOf_comm ..).symm
      _ = u := by rw [← eq_withReceiverOf hfirst, hu]
  rw [← eq_withReceiverOf hfirst, hcommute] at hturn'
  exact ⟨t', hfirst, hturn'⟩

end Sys2Proof.Machine
end

section
/-! PROOFS. 30_encoding.md: decoding and encoding (R86 to R90, R92, R93). -/

namespace Sys2Proof

/-! ### What the encoder writes, decoded -/

/-- The fields of an encoded word are the operands, so each row of the operation map (R88) gives them back; a receive
symbol decodes by its bit 8 (R90). -/
theorem decode_encode (i : Instr) : decode (encode i) = .ok i := by
  cases i with
  | rxb b => exact congrArg Except.ok (decodeSymbol_symbolWord false b)
  | rxe => exact congrArg Except.ok (decodeSymbol_symbolWord true 0)
  | _ => exact decodeCommand_commandWord ..

/-! ### The numbers of the opcode table -/

theorem tablePortWord_command {nbits w : Nat} (hn : 16 < nbits) (hw : w < 2 ^ 32) :
    tablePortWord nbits w = .ok (.command (BitVec.ofNat 32 w)) := by
  rw [tablePortWord, if_neg (Nat.not_le.mpr hn), if_pos hw]

theorem tablePortWord_symbol {nbits w : Nat} (hn : nbits ≤ 16) (hw : w < 2 ^ 9) :
    tablePortWord nbits w = .ok (.symbol (BitVec.ofNat 9 w)) := by
  rw [tablePortWord, if_pos hn, if_pos hw]

/-- A command word is the port word of its own number. -/
theorem tablePortWord_commandWord (cw : CommandWord) : tablePortWord 32 cw.toNat = .ok (.command cw) := by
  rw [tablePortWord_command (by decide) cw.isLt, BitVec.ofNat_toNat, BitVec.setWidth_eq]

/-- A receive symbol is the port word of its own number. -/
theorem tablePortWord_receiveSymbol (rs : Symbol) : tablePortWord 16 rs.toNat = .ok (.symbol rs) := by
  rw [tablePortWord_symbol (Nat.le_refl 16) rs.isLt, BitVec.ofNat_toNat, BitVec.setWidth_eq]

/-- A table number is read as the port word it stands for. -/
theorem decodeTableWord_eq_some_iff {nbits w : Nat} {i : Instr} :
    decodeTableWord nbits w = some i ↔ ∃ pw, tablePortWord nbits w = .ok pw ∧ decode pw = .ok i := by
  unfold decodeTableWord
  cases hp : tablePortWord nbits w with
  | error e => simp
  | ok pw => cases hd : decode pw <;> simp [hd]

/-- Settles O1: a port word is its own table number, so both clauses on the table are `decode_encode`. -/
theorem decodeOfEncodeIsTheInstruction : Obligations.DecodeOfEncodeIsTheInstruction := by
  intro i _
  refine ⟨decode_encode i, fun cw hcw => ?command, fun rs hrs => ?symbol⟩
  case command => exact decodeTableWord_eq_some_iff.mpr ⟨_, tablePortWord_commandWord cw, hcw ▸ decode_encode i⟩
  case symbol => exact decodeTableWord_eq_some_iff.mpr ⟨_, tablePortWord_receiveSymbol rs, hrs ▸ decode_encode i⟩

/-! ### What the decoder reads, encoded -/

/-- A mask acts on the three fields of a command word each by itself. -/
theorem commandWord_and (op op' : Byte) (a a' : Half) (b b' : Byte) :
    commandWord op a b &&& commandWord op' a' b' = commandWord (op &&& op') (a &&& a') (b &&& b') := by
  unfold commandWord
  rw [BitVec.and_append, BitVec.and_append]

theorem commandWord_and_codeB (op : Byte) (a : Half) (b : Byte) :
    commandWord op a b &&& 0xFF0000FF = commandWord op 0 b := by
  have hm : (0xFF0000FF : CommandWord) = commandWord (BitVec.allOnes 8) 0#16 (BitVec.allOnes 8) := rfl
  rw [hm, commandWord_and, BitVec.and_allOnes, BitVec.and_zero, BitVec.and_allOnes]
  rfl

theorem commandWord_and_codeA (op : Byte) (a : Half) (b : Byte) :
    commandWord op a b &&& 0xFFFFFF00 = commandWord op a 0 := by
  have hm : (0xFFFFFF00 : CommandWord) = commandWord (BitVec.allOnes 8) (BitVec.allOnes 16) 0#8 := rfl
  rw [hm, commandWord_and, BitVec.and_allOnes, BitVec.and_allOnes, BitVec.and_zero]
  rfl

theorem commandWord_and_all (op : Byte) (a : Half) (b : Byte) :
    commandWord op a b &&& 0xFFFFFFFF = commandWord op a b := BitVec.and_allOnes

/-- A receive symbol is put back from its two fields (R90). -/
theorem symbolWord_fields (rs : Symbol) : symbolWord (Symbol.e rs) (Symbol.d rs) = rs := by
  apply BitVec.eq_of_getLsbD_eq
  intro k hk
  simp only [symbolWord, Symbol.e, Symbol.d, BitVec.getLsbD_append, BitVec.getLsbD_extractLsb']
  split
  case isTrue h => simp [h]
  case isFalse h =>
    obtain rfl : k = 8 := by omega
    exact BitVec.getLsbD_ofBool ..

end Sys2Proof

namespace Sys2Proof.Machine

/-- Row by row of the operation map (R88): the code is the row's, and the row's mask keeps the operand fields it
uses. -/
theorem encode_of_decodeFields {op : Byte} {a : Half} {b : Byte} {i : Instr} (h : decodeFields op a b = .ok i) :
    encode i = .command (commandWord op a b &&& usedBits i) := by
  unfold decodeFields at h
  split at h
  case h_13 => cases h
  all_goals
    rename_i hop
    obtain ⟨-, rfl⟩ := BitVec.toNat_eq_nat.mp hop
    cases h
  case h_1 | h_7 | h_8 | h_9 | h_12 => exact congrArg _ (Laws.RowMatch.commandWord_mask ..).symm
  case h_2 | h_10 => exact congrArg _ (commandWord_and_codeB ..).symm
  case h_5 | h_6 | h_11 => exact congrArg _ (commandWord_and_codeA ..).symm
  case h_3 | h_4 => exact congrArg _ (commandWord_and_all ..).symm

/-- `RXE` is encoded as the symbol `0x100` (R93); a byte's symbol has no ignored bit. -/
theorem encode_decodeSymbol (rs : Symbol) : encode (decodeSymbol rs) = .symbol (if Symbol.e rs then 0x100 else rs) := by
  unfold decodeSymbol
  split
  case isTrue => rfl
  case isFalse he =>
    have hs : symbolWord false (Symbol.d rs) = rs := by simpa [he] using symbolWord_fields rs
    exact congrArg PortWord.symbol hs

/-- Settles O2: a command word is put back from its fields, and then each row of the operation map is checked. -/
theorem encodeOfDecodeKeepsTheUsedFields : Obligations.EncodeOfDecodeKeepsTheUsedFields := by
  refine ⟨fun cw i hd => ?_, encode_decodeSymbol⟩
  rw [← commandWord_fields cw]
  exact encode_of_decodeFields hd

/-! ### The reserved codes (R89, R164) -/

theorem decodeCommand_error_iff (cw : CommandWord) :
    (∃ e, decodeCommand cw = .error e) ↔ 0x0C ≤ (CommandWord.op cw).toNat :=
  decodeFields_error_iff ..

theorem decodeCommand_ok_of_lt {cw : CommandWord} (h : (CommandWord.op cw).toNat < 0x0C) :
    ∃ i, decodeCommand cw = .ok i := by
  cases hd : decodeCommand cw with
  | ok i => exact ⟨i, rfl⟩
  | error e => exact absurd ((decodeCommand_error_iff cw).mp ⟨e, hd⟩) (Nat.not_le.mpr h)

theorem hostEvent_of_error {cw : CommandWord} {e : DecodeError} (h : decodeCommand cw = .error e) (s : State) :
    hostEvent cw s = .next (afterRefusal .illop s) := by
  simp [hostEvent, h, reservedCode]

/-- Settles O3: the operation map has no row from `0x0C` on, and what it has no row for is refused with `ILLOP`. -/
theorem reservedCodesAreRefusedWithIllop : Obligations.ReservedCodesAreRefusedWithIllop := by
  refine fun cw => ⟨fun hop => ?_, decodeCommand_ok_of_lt⟩
  obtain ⟨e, he⟩ := (decodeCommand_error_iff cw).mpr hop
  exact ⟨by simp [he], hostEvent_of_error he⟩

/-! ### The result of a host operation (R87, R176) -/

/-- A host operation is refused with a cause, or returns one value and leaves the refusal record, but for `CLRERR`. -/
theorem HostEffect.refused_or_accepted {i : Instr} {s t : State} (he : HostEffect i s t) :
    (∃ c, c ≠ .none ∧ t = afterRefusal c s) ∨
      (∃ v, t.results = s.results ++ [⟨true, v⟩]) ∧ (i = .clrerr ∨ (t.operr = s.operr ∧ t.operrc = s.operrc)) := by
  cases he with
  | refused c hc => exact .inl ⟨c, hc, rfl⟩
  | clrerr hi => exact .inr ⟨⟨_, rfl⟩, .inl hi⟩
  | _ => exact .inr ⟨⟨_, rfl⟩, .inr ⟨rfl, rfl⟩⟩

/-- The same of every command word, a reserved code being refused. -/
theorem hostEvent_refused_or_accepted (cw : CommandWord) (s : State) :
    ∃ t, hostEvent cw s = .next t ∧
      ((∃ c, c ≠ .none ∧ t = afterRefusal c s) ∨
        (∃ v, t.results = s.results ++ [⟨true, v⟩]) ∧
          (Event.hostDoes .clrerr (.host cw) ∨ (t.operr = s.operr ∧ t.operrc = s.operrc))) := by
  obtain ⟨t, ht, ⟨i, hd, he⟩ | ⟨-, rfl⟩⟩ := hostEvent_effect cw s
  · refine ⟨t, ht, he.refused_or_accepted.imp_right (And.imp_right (Or.imp_left fun hi => ?_))⟩
    exact Event.hostDoes_of_decode (hi ▸ hd)
  · exact ⟨_, ht, .inl ⟨.illop, by decide, rfl⟩⟩

/-- Settles O17: a refused word returns `ok = 0` and an accepted one `ok = 1`, so the result tells which it was. -/
theorem refusedOperationsHaveNoOtherEffect : Obligations.RefusedOperationsHaveNoOtherEffect := by
  intro cw s
  obtain ⟨t, ht, ⟨c, hc, rfl⟩ | ⟨⟨v, hv⟩, hrecord⟩⟩ := hostEvent_refused_or_accepted cw s
  · exact ⟨_, ⟨false, 0⟩, ht, rfl, fun _ => ⟨rfl, c, hc, rfl⟩, nofun⟩
  · exact ⟨t, ⟨true, v⟩, ht, hv, nofun, fun _ => hrecord⟩

/-! ### Words presented at a port -/

/-- Settles O4: on a literal word the operation map and the decoding of symbols compute. -/
theorem wordsOfTheOperationMapDecode : Obligations.WordsOfTheOperationMapDecode :=
  ⟨rfl, rfl, rfl, rfl, rfl, rfl, rfl, rfl, rfl, rfl, rfl, rfl, rfl, rfl⟩

theorem step_withFetchWord {nbits w : Nat} {pw : PortWord} (h : tablePortWord nbits w = .ok pw) (s : State) :
    step (State.withFetchWord s nbits w) = runEvent (portEvent pw) s := by
  simp [State.withFetchWord, presentTableWord, h, present, step]

theorem runEvent_portEvent {pw : PortWord} {i : Instr} (h : decode pw = .ok i) (s : State) :
    runEvent (portEvent pw) s = exec i s := by
  cases pw with
  | command cw => exact hostEvent_of_decode h s
  | symbol rs => cases h; rfl

/-- A table number from `0x0C000000` on is a word with a reserved code (R89). -/
theorem op_ofNat_reserved {w : Nat} (hlow : 0x0C000000 ≤ w) (hhigh : w < 2 ^ 32) :
    0x0C ≤ (CommandWord.op (BitVec.ofNat 32 w)).toNat := by
  rw [CommandWord.op_toNat, BitVec.toNat_ofNat]
  omega

/-- Settles O6: the presented word is the first pending event, and its event runs what the word decodes to. -/
theorem presentedTableWordRunsNext : Obligations.PresentedTableWordRunsNext := by
  refine fun s nbits w => ⟨fun i hi => ?decoded, fun hn hlow hhigh => ?reserved⟩
  case decoded =>
    obtain ⟨pw, hport, hd⟩ := decodeTableWord_eq_some_iff.mp hi
    rw [step_withFetchWord hport, runEvent_portEvent hd]
  case reserved =>
    have hport := tablePortWord_command hn hhigh
    obtain ⟨e, he⟩ := (decodeCommand_error_iff _).mpr (op_ofNat_reserved hlow hhigh)
    exact ⟨by simp [decodeTableWord, hport, decode, he], (step_withFetchWord hport s).trans (hostEvent_of_error he s)⟩

end Sys2Proof.Machine
end

section
/-! PROOFS. 40_checksum.md: the checksum function (R100, R101), the validator's verdict (R108) and the stand-alone
operations (R102 to R104). -/

namespace Sys2Proof.Machine

/-! ### The function -/

theorem zext16_injective : Function.Injective zext16 :=
  fun b b' h => BitVec.eq_of_toNat_eq (by simpa using congrArg BitVec.toNat h)

theorem csum16_cons (b : Byte) (bs : List Byte) : csum16 (b :: bs) = zext16 b + csum16 bs := by
  rw [← List.singleton_append, csum16_append, csum16_singleton]

/-- A cleared accumulator to which each byte is added in turn ends with the checksum (R101). -/
theorem csum16_eq_foldl (bs : List Byte) : csum16 bs = bs.foldl addByte 0 := by
  induction bs using List.reverseRecOn with
  | nil => rfl
  | append_singleton bs b ih => rw [csum16_concat, List.foldl_concat, ih]

/-- R101: the sum does not depend on the order of the bytes. -/
theorem csum16_perm {xs ys : List Byte} (h : xs.Perm ys) : csum16 xs = csum16 ys :=
  congrArg (BitVec.ofNat 16) (h.map BitVec.toNat).sum_eq

/-- R101: the bytes around a changed one cancel, and zero extension keeps two bytes apart. -/
theorem csum16_byte_injective {xs ys : List Byte} {b b' : Byte}
    (h : csum16 (xs ++ b :: ys) = csum16 (xs ++ b' :: ys)) : b = b' := by
  simp only [csum16_append, csum16_cons] at h
  exact zext16_injective (add_right_cancel (add_left_cancel h))

/-- Settles O20: the sum is a homomorphism from lists of bytes to the additive group of 16-bit words. -/
theorem checksumLaws : Obligations.ChecksumLaws :=
  ⟨csum16_toNat, csum16_eq_foldl, csum16_append, fun _ _ => csum16_perm,
    fun _ _ _ _ hne h => hne (csum16_byte_injective h)⟩

/-! ### The verdict -/

theorem be16_low_injective (hi : Byte) : Function.Injective (be16 hi) := fun b b' h => by
  rw [← lo8_be16 hi b, h, lo8_be16]

/-- R142: the verdict is good for one checksum only. -/
theorem checksumVerdict_unique {cs ck ck' : Half} (h : checksumVerdict cs ck = true)
    (h' : checksumVerdict cs ck' = true) : ck = ck' :=
  (of_decide_eq_true h).symm.trans (of_decide_eq_true h')

theorem rxChecksumLow_csok (b : Byte) (s : State) :
    (rxChecksumLow b s).csok = checksumVerdict s.rxcs (be16 (hi8 s.rxck) b) := rfl

/-- R108: no matter which byte completes the frame, the state is the same but for `RXCK` and `CSOK`. -/
theorem rxChecksumLow_alike (b b' : Byte) (s : State) :
    rxChecksumLow b' s =
      { rxChecksumLow b s with rxck := (rxChecksumLow b' s).rxck, csok := (rxChecksumLow b' s).csok } := rfl

/-- At most one low checksum byte completes the frame with a good verdict. -/
theorem rxChecksumLow_csok_unique {s : State} {b b' : Byte} (h : (rxChecksumLow b s).csok = true)
    (h' : (rxChecksumLow b' s).csok = true) : b = b' := by
  rw [rxChecksumLow_csok] at h h'
  exact be16_low_injective _ (checksumVerdict_unique h h')

/-- Settles O38: both bytes stand at the low checksum's position, so `rxb_checksumLow` gives both end states. -/
theorem theVerdictDecidesNothingElse : Obligations.TheVerdictDecidesNothingElse := by
  intro s t u b b' hr h9 hp ht hu
  obtain rfl : rxChecksumLow b s = t := Host.Outcome.next.inj ((rxb_checksumLow hr h9 hp).symm.trans ht)
  obtain rfl : rxChecksumLow b' s = u := Host.Outcome.next.inj ((rxb_checksumLow hr h9 hp).symm.trans hu)
  exact ⟨rfl, rfl, rxChecksumLow_alike b b' s, fun hne hok => hne (rxChecksumLow_csok_unique hok.1 hok.2)⟩

/-! ### The stand-alone unit -/

/-- A row of the operation map (R88) selects its operation in every command word of its code. -/
theorem selects_of_decodeFields {code : Byte} {operation : Half → Byte → Instr}
    (h : ∀ a b, decodeFields code a b = .ok (operation a b)) : Selects code operation := by
  intro cw hop
  subst hop
  exact h (CommandWord.a cw) (CommandWord.b cw)

theorem execCscmp_equal (s : State) : execCscmp s.csacc s = .next (afterAccept 1 s) := by
  rw [execCscmp, if_pos rfl, accept_eq]

theorem execCscmp_unequal {s : State} {v : Half} (h : v ≠ s.csacc) : execCscmp v s = .next (afterAccept 0 s) := by
  rw [execCscmp, if_neg h.symm, accept_eq]

/-- Settles O19: the three rows of the operation map, and the one next state of each operation. -/
theorem standAloneChecksumOperations : Obligations.StandAloneChecksumOperations := by
  refine ⟨selects_of_decodeFields fun _ _ => rfl, selects_of_decodeFields fun _ _ => rfl,
    selects_of_decodeFields fun _ _ => rfl,
    fun s => ⟨accept_eq .., fun b => ?add, fun v hv => ?equal, fun v hv => ?unequal⟩⟩
  case add => exact ⟨addByte s.csacc b, addByte_toNat .., accept_eq ..⟩
  case equal => exact hv ▸ execCscmp_equal s
  case unequal => exact execCscmp_unequal hv

end Sys2Proof.Machine
end

section
/-! PROOFS. 41_encoder.md: TXWR (R111), ENCGO (R113) and the byte of each EMIT (R114 to R120). -/

namespace Sys2Proof.Machine

variable {s : State}

/-! ### TXWR and ENCGO -/

theorem execTxwr_of_busy (i : Half) (b : Byte) (hb : s.txbusy = true) :
    execTxwr i b s = .next (afterRefusal .txbusy s) := by
  simp [execTxwr, hb]

theorem execTxwr_of_lt {i : Half} (b : Byte) (hb : s.txbusy = false) (hi : i.toNat < s.cfg.maxp) :
    execTxwr i b s = .next (afterAccept 0 (txStore i.toNat b s)) := by
  simp [execTxwr, hb, hi]

theorem execTxwr_of_ge {i : Half} (b : Byte) (hb : s.txbusy = false) (hi : s.cfg.maxp ≤ i.toNat) :
    execTxwr i b s = .next (afterRefusal .index s) := by
  simp [execTxwr, hb, hi]

/-- Settles O21: the three outcomes of `TXWR`, and what a cell reads after a store to the same or another cell. -/
theorem txwrWritesItsCell : Obligations.TxwrWritesItsCell := by
  refine ⟨selects_of_decodeFields fun _ _ => rfl, fun s i b => ⟨fun hb hi => ?written, execTxwr_of_busy i b,
    execTxwr_of_ge b⟩⟩
  case written =>
    refine ⟨_, execTxwr_of_lt b hb hi, ?same, fun j hj => ?other, rfl⟩
    case same => simp [txCell_txStore]
    case other => simp [txCell_txStore, hj]

theorem execEncgo_of_busy (hb : s.txbusy = true) : execEncgo s = .next (afterRefusal .txbusy s) := by
  simp [execEncgo, hb]

theorem execEncgo_of_illegal (hb : s.txbusy = false) (hn : s.txn = 0 ∨ s.cfg.maxp < s.txn.toNat) :
    execEncgo s = .next (afterRefusal .txrange s) := by
  have hillegal : payloadCountLegal s ≠ true := by
    rw [ne_eq, payloadCountLegal_iff]
    rcases hn with hn | hn
    · simp [hn]
    · omega
  simp only [execEncgo, hb, hillegal, if_false, Bool.false_eq_true, refuse_eq]

/-- Settles O22: `ENCGO` with `TXBUSY` checked before `TXRANGE` (R113), each outcome by its law. -/
theorem encgoStartsAFrame : Obligations.EncgoStartsAFrame :=
  ⟨selects_of_decodeFields fun _ _ => rfl,
    fun _ => ⟨execEncgo_of_legal, execEncgo_of_busy, execEncgo_of_illegal⟩⟩

/-! ### EMIT -/

/-- Settles O23: in a started frame the encoder's turn is an `EMIT`, and its law of each phase gives the next state.
The two header bytes (R115) are `prefixByte` at offsets 0 and 1, the address bytes (R116) at 2 to 5. -/
theorem emitSendsTheByteOfEachOffset : Obligations.EmitSendsTheByteOfEachOffset := by
  intro s hi hb
  obtain ⟨h1, hm, -⟩ := hi.busy hb
  have turn {t : State} : emit s = .next t → runEvent .enc s = .next t := (encoderTurn_of_busy hb).trans
  have fixed {k : Nat} (h : s.txpos.toNat = k) (h5 : k ≤ 5) :
      runEvent .enc s = .next (emitByte (prefixByte s.cfg k) s) := h ▸ turn (emit_prefix (h ▸ h5))
  refine ⟨(fixed · (by decide)), (fixed · (by decide)), fun h2 h5 => ?address, fun h => turn (emit_type h),
    fun h => turn (emit_lengthHigh h), fun h => turn (emit_lengthLow h), fun h9 hn => ?payload,
    fun h => turn (emit_checksumHigh h), fun h => turn (emit_checksumLow h)⟩
  case address => exact prefixByte_addr s.cfg _ h2 h5 ▸ turn (emit_prefix h5)
  case payload =>
    have hcell : s.txpos.toNat - 9 < s.cfg.maxp := by omega
    exact turn (emit_payload h9 hn hcell)

end Sys2Proof.Machine
end

section
/-! PROOFS. 41_encoder.md: the frame a started encoder sends (R121). -/

namespace Sys2Proof.Machine

variable {s t : State}

/-! ### The frame of a state, byte by byte (R84) -/

/-- The bytes the checksum of the frame sums (R82), from the transmit side as it stands. -/
def summedOf (s : State) : List Byte := summedBytes s.txtype (payload s)

/-- The frame that an `ENCGO` accepted now sends (R121). -/
def frameOf (s : State) : List Byte := frame s.cfg s.txtype (payload s)

@[simp] theorem payload_length (s : State) : (payload s).length = s.txn.toNat := by
  simp [payload]

theorem payload_getElem? {i : Nat} (h : i < s.txn.toNat) : (payload s)[i]? = some (txCell s i) := by
  simp [payload, h]

theorem summedOf_eq (s : State) :
    summedOf s = s.txtype :: hi8 (lengthField s.txn) :: lo8 (lengthField s.txn) :: payload s := by
  simp [summedOf, summedBytes, be16Bytes]

theorem summedOf_payload {i : Nat} (h : i < s.txn.toNat) : (summedOf s)[i + 3]? = some (txCell s i) := by
  rw [summedOf_eq]
  exact payload_getElem? h

@[simp] theorem summedOf_length (s : State) : (summedOf s).length = 3 + s.txn.toNat := by
  simp only [summedOf_eq, List.length_cons, payload_length]
  omega

theorem frameOf_eq (s : State) :
    frameOf s = (List.range 6).map (prefixByte s.cfg) ++ summedOf s ++ be16Bytes (csum16 (summedOf s)) := rfl

theorem length_before_checksum (s : State) :
    ((List.range 6).map (prefixByte s.cfg) ++ summedOf s).length = 9 + s.txn.toNat := by
  simp only [List.length_append, List.length_map, List.length_range, summedOf_length]
  omega

@[simp] theorem frameOf_length (s : State) : (frameOf s).length = 11 + s.txn.toNat := by
  rw [frameOf_eq, List.length_append, length_before_checksum, be16Bytes, List.length_cons, List.length_singleton]
  omega

theorem frameOf_prefix {p : Nat} (h : p ≤ 5) : (frameOf s)[p]? = some (prefixByte s.cfg p) := by
  have h6 : p < 6 := by omega
  simp [frameOf_eq, h6, Nat.lt_add_right]

theorem frameOf_summed {p : Nat} (h6 : 6 ≤ p) (hn : p ≤ 8 + s.txn.toNat) :
    (frameOf s)[p]? = (summedOf s)[p - 6]? := by
  have hlen : p < 9 + s.txn.toNat := by omega
  rw [frameOf_eq, List.getElem?_append_left ((length_before_checksum s).symm ▸ hlen), List.getElem?_append_right (by simpa using h6), List.length_map,
    List.length_range]

/-- The two checksum bytes are the last of the frame. -/
theorem frameOf_checksum (s : State) (i : Nat) :
    (frameOf s)[9 + s.txn.toNat + i]? = (be16Bytes (csum16 (summedOf s)))[i]? := by
  have hlen := length_before_checksum s
  rw [frameOf_eq, List.getElem?_append_right (by omega), hlen, Nat.add_sub_cancel_left]

/-! ### The checksum while the frame is being sent (R117 to R119) -/

theorem csum16_take_succ {bs : List Byte} {j : Nat} {b : Byte} (h : bs[j]? = some b) :
    csum16 (bs.take (j + 1)) = addByte (csum16 (bs.take j)) b := by
  rw [List.take_add_one, h, Option.toList_some, csum16_concat]

/-- `t` is `s` after it has sent the frame's byte at `TXPOS`, with `TXCS` the sum of the summed bytes sent so far. -/
structure SendsFrameByte (s t : State) : Prop where
  byte : t.txout = s.txout ++ (frameOf s)[s.txpos.toNat]?.toList
  sum  : t.txcs = csum16 ((summedOf s).take (s.txpos.toNat + 1 - 6))

section

variable (hcs : s.txcs = csum16 ((summedOf s).take (s.txpos.toNat - 6)))

include hcs

/-- A header or address byte is sent before the sum begins. -/
theorem emitByte_sends_prefix (hp : s.txpos.toNat ≤ 5) :
    SendsFrameByte s (emitByte (prefixByte s.cfg s.txpos.toNat) s) where
  byte := by simp [frameOf_prefix hp]
  sum := by
    have hnone : s.txpos.toNat + 1 - 6 = s.txpos.toNat - 6 := by omega
    rw [hnone, ← hcs, emitByte_txcs]

theorem emitSummed_sends {o : Byte} (h6 : 6 ≤ s.txpos.toNat) (hn : s.txpos.toNat ≤ 8 + s.txn.toNat)
    (ho : (summedOf s)[s.txpos.toNat - 6]? = some o) : SendsFrameByte s (emitSummed o s) where
  byte := by simp [frameOf_summed h6 hn, ho]
  sum := by rw [Nat.sub_add_comm h6, csum16_take_succ ho, ← hcs, emitSummed_txcs]

/-- A checksum byte is sent after the sum is complete. -/
theorem sends_checksum {i : Nat} (hp : s.txpos.toNat = 9 + s.txn.toNat + i)
    (hout : t.txout = s.txout ++ (be16Bytes s.txcs)[i]?.toList) (hkeep : t.txcs = s.txcs) : SendsFrameByte s t := by
  have complete {j : Nat} (hj : 3 + s.txn.toNat ≤ j) : (summedOf s).take j = summedOf s :=
    List.take_of_length_le (by rwa [summedOf_length])
  rw [complete (by omega)] at hcs
  constructor
  · rw [hout, hp, frameOf_checksum, hcs]
  · rw [hkeep, complete (by omega), hcs]

/-- One `EMIT` of a started frame sends the frame's byte at `TXPOS` and keeps `TXCS` the sum (R115 to R120). -/
theorem emit_sendsFrameByte (hi : TxInv s) (hb : s.txbusy = true) :
    ∃ t, emit s = .next t ∧ SendsFrameByte s t := by
  rcases emit_phases hi hb with h | h | h | h | ⟨h9, hn, hc⟩ | h | h
  · exact ⟨_, emit_prefix h, emitByte_sends_prefix hcs h⟩
  · exact ⟨_, emit_type h, emitSummed_sends hcs (by omega) (by omega) (by simp [h, summedOf_eq])⟩
  · exact ⟨_, emit_lengthHigh h, emitSummed_sends hcs (by omega) (by omega) (by simp [h, summedOf_eq])⟩
  · exact ⟨_, emit_lengthLow h, emitSummed_sends hcs (by omega) (by omega) (by simp [h, summedOf_eq])⟩
  · have hbyte : (summedOf s)[s.txpos.toNat - 6]? = some (txCell s (s.txpos.toNat - 9)) := by
      have hindex : s.txpos.toNat - 6 = s.txpos.toNat - 9 + 3 := by omega
      rw [hindex, summedOf_payload (by omega)]
    exact ⟨_, emit_payload h9 hn hc, emitSummed_sends hcs (by omega) hn hbyte⟩
  · exact ⟨_, emit_checksumHigh h, sends_checksum hcs (i := 0) h rfl rfl⟩
  · exact ⟨_, emit_checksumLow h, sends_checksum hcs (i := 1) (by omega) rfl rfl⟩

end

/-! ### A frame from its start (R121) -/

/-- The encoder of `t` has sent the first `k` bytes of the frame that an `ENCGO` started in state `s`. -/
structure FrameSent (s : State) (k : Nat) (t : State) : Prop where
  cfg    : t.cfg = s.cfg
  txtype : t.txtype = s.txtype
  txn    : t.txn = s.txn
  cells  : ∀ i, txCell t i = txCell s i
  txpos  : t.txpos.toNat = k
  txout  : t.txout = s.txout ++ (frameOf s).take k
  txcs   : t.txcs = csum16 ((summedOf s).take (k - 6))

theorem frameSent_startFrame (s : State) : FrameSent s 0 (afterAccept 0 (startFrame s)) :=
  ⟨rfl, rfl, rfl, fun _ => rfl, rfl, by simp, rfl⟩

theorem FrameSent.of_sameTx {k : Nat} {u : State} (h : FrameSent s k t) (hc : u.cfg = t.cfg) (hu : SameTx t u) :
    FrameSent s k u := by
  obtain ⟨htype, hn, hpos, hcs, -, hout, hcell⟩ := hu
  exact ⟨hc.trans h.cfg, htype.trans h.txtype, hn.trans h.txn, fun i => (hcell i).trans (h.cells i), hpos ▸ h.txpos,
    hout.trans h.txout, hcs.trans h.txcs⟩

theorem FrameSent.payload_eq {k : Nat} (h : FrameSent s k t) : payload t = payload s := by
  simp only [payload, h.txn]
  exact List.map_congr_left fun i _ => h.cells i

theorem FrameSent.frameOf_eq {k : Nat} (h : FrameSent s k t) : frameOf t = frameOf s := by
  simp only [frameOf, h.cfg, h.txtype, h.payload_eq]

theorem FrameSent.summedOf_eq {k : Nat} (h : FrameSent s k t) : summedOf t = summedOf s := by
  simp only [summedOf, h.txtype, h.payload_eq]

/-- The encoder's turn sends the next byte; it ends the frame with the last one. -/
theorem FrameSent.turn {k : Nat} (h : FrameSent s k t) (hi : MachineInv t) (hb : t.txbusy = true) :
    ∃ u, runEvent .enc t = .next u ∧ FrameSent s (k + 1) u ∧ (u.txbusy = true ↔ k < 10 + s.txn.toNat) := by
  have hsum : t.txcs = csum16 ((summedOf t).take (t.txpos.toNat - 6)) := by rw [h.txcs, h.summedOf_eq, h.txpos]
  obtain ⟨u, hu, hsend⟩ := emit_sendsFrameByte hsum hi.tx hb
  obtain ⟨u', hu', hbusy⟩ := emit_answers hi.tx hb
  obtain rfl : u = u' := Host.Outcome.next.inj (hu.symm.trans hu')
  have hturn : encoderTurn t = .next u := (encoderTurn_of_busy hb).trans hu
  obtain ⟨htype, hn, hcell, -, -, -, -, -, hcfg⟩ := encoderTurn_leaves hturn
  refine ⟨u, hturn, ?sent, by rw [hbusy, h.txpos, h.txn]⟩
  exact {
    cfg := hcfg.trans h.cfg
    txtype := htype.trans h.txtype
    txn := hn.trans h.txn
    cells := fun i => (hcell i).trans (h.cells i)
    txpos := by rw [emit_txpos hu, hi.tx.txpos_succ hi.params hb, h.txpos]
    txout := by rw [hsend.byte, h.txout, h.frameOf_eq, h.txpos, List.append_assoc, List.take_add_one]
    txcs := by rw [hsend.sum, h.summedOf_eq, h.txpos] }

/-- The machine `t` is in the middle of the frame started in `s`, with `k` bytes sent. -/
structure Underway (s : State) (k : Nat) (t : State) : Prop where
  inv  : MachineInv t
  sent : FrameSent s k t
  busy : t.txbusy = true

theorem Underway.pending {k : Nat} (h : Underway s k t) (rest : List Event) :
    Underway s k { t with pending := rest } :=
  ⟨h.inv.pending rest, h.sent.of_sameTx rfl ⟨rfl, rfl, rfl, rfl, rfl, rfl, fun _ => rfl⟩, h.busy⟩

theorem Underway.turn {k : Nat} (h : Underway s k t) (hk : k < 10 + s.txn.toNat) :
    ∃ u, runEvent .enc t = .next u ∧ Underway s (k + 1) u := by
  obtain ⟨u, hu, hsent, hbusy⟩ := h.sent.turn h.inv h.busy
  exact ⟨u, hu, (runEvent_effect hu).keeps_inv h.inv, hsent, hbusy.mpr hk⟩

/-- A host operation or a receive symbol leaves the frame as it is (R70). -/
theorem Underway.undisturbed {k : Nat} {e : Event} (h : Underway s k t) (henc : Event.isEnc e = false)
    (hreset : Event.isReset e = false) : ∃ u, runEvent e t = .next u ∧ Underway s k u := by
  obtain ⟨u, hu⟩ := runEvent_answers e h.inv
  have hsame : SameTx t u := aStartedFrameCannotBeDisturbed t u e h.busy henc hreset hu
  have hsent := h.sent.of_sameTx (runEvent_keeps hu).1 hsame
  obtain ⟨-, -, -, -, hbusy, -⟩ := hsame
  exact ⟨u, hu, (runEvent_effect hu).keeps_inv h.inv, hsent, hbusy.trans h.busy⟩

/-- One step with an event other than a `RESET`. -/
theorem Underway.step {k : Nat} {e : Event} {rest : List Event} (h : Underway s k t) (hp : t.pending = e :: rest)
    (hreset : Event.isReset e = false) (hk : k + [e].countP Event.isEnc ≤ 10 + s.txn.toNat) :
    ∃ u, step t = .next u ∧ u.pending = rest ∧ Underway s (k + [e].countP Event.isEnc) u := by
  obtain ⟨u, hu, hunder⟩ : ∃ u, runEvent e { t with pending := rest } = .next u ∧
      Underway s (k + [e].countP Event.isEnc) u := by
    cases e with
    | enc => exact (h.pending rest).turn hk
    | reset => cases hreset
    | host => exact (h.pending rest).undisturbed rfl hreset
    | rx => exact (h.pending rest).undisturbed rfl hreset
  exact ⟨u, (step_pending hp).trans hu, (runEvent_keeps hu).2, hunder⟩

/-- A run over events other than a `RESET`, with no turn of the encoder that would end the frame. -/
theorem Underway.run {k : Nat} {es rest : List Event} (h : Underway s k t) (hp : t.pending = es ++ rest)
    (hreset : ∀ e ∈ es, Event.isReset e = false) (hk : k + es.countP Event.isEnc ≤ 10 + s.txn.toNat) :
    ∃ u, runSteps es.length t = .next u ∧ u.pending = rest ∧ Underway s (k + es.countP Event.isEnc) u := by
  induction es generalizing k t with
  | nil => exact ⟨t, rfl, hp, h⟩
  | cons e es ih =>
    have hcount : k + (e :: es).countP Event.isEnc = k + [e].countP Event.isEnc + es.countP Event.isEnc := by
      rw [← List.singleton_append, List.countP_append, Nat.add_assoc]
    rw [hcount] at hk ⊢
    obtain ⟨u, hu, hpu, hunder⟩ := h.step hp (hreset e (by simp)) (by omega)
    obtain ⟨v, hv, hpv, hend⟩ := ih hunder hpu (fun e' he' => hreset e' (by simp [he'])) hk
    exact ⟨v, (runSteps_next _ hu).trans hv, hpv, hend⟩

/-- An accepted `ENCGO` starts the frame. -/
theorem underway_of_encgo (hi : MachineInv s) (hb : s.txbusy = false) (h1 : 1 ≤ s.txn.toNat)
    (hm : s.txn.toNat ≤ s.cfg.maxp) (h : exec .encgo s = .next t) : Underway s 0 t ∧ t.pending = s.pending := by
  obtain rfl : afterAccept 0 (startFrame s) = t := Host.Outcome.next.inj ((execEncgo_of_legal hb h1 hm).symm.trans h)
  exact ⟨⟨(HostEffect.encgo rfl hb h1 hm).keeps_inv hi, frameSent_startFrame s, rfl⟩, rfl⟩

/-- Settles O25: each turn of the encoder sends the frame's next byte, no other event disturbs the frame, and the turn
at offset `10 + n` ends it. -/
theorem anEncodedFrameIsEmittedWhole : Obligations.AnEncodedFrameIsEmittedWhole := by
  intro s s₀ es rest hi hb h1 hm hgo hreset
  obtain ⟨hstart, hpending⟩ := underway_of_encgo hi hb h1 hm hgo
  refine ⟨fun hp hk => ?partly, fun hp hk => ?whole⟩
  case partly =>
    obtain ⟨t, ht, -, hunder⟩ := hstart.run (hpending.trans hp) hreset (by omega)
    rw [Nat.zero_add] at hunder
    exact ⟨t, ht, hunder.busy, hunder.sent.txpos, hunder.sent.txout⟩
  case whole =>
    obtain ⟨t, ht, hpt, hunder⟩ := hstart.run (hpending.trans hp) hreset (by omega)
    rw [Nat.zero_add, hk] at hunder
    obtain ⟨u, hu, hsent, hbusy⟩ := (hunder.pending rest).sent.turn (hunder.pending rest).inv hunder.busy
    have hrun : runSteps (es.length + 1) s₀ = .next u := by
      rw [runSteps_add _ _ ht, runSteps_next _ ((step_pending hpt).trans hu), runSteps_zero]
    have hpos : 10 + s.txn.toNat + 1 = 11 + s.txn.toNat := by omega
    rw [hpos] at hsent
    refine ⟨u, hrun, by simpa using hbusy, hsent.txpos, ?out, ?sum, hsent.txtype, hsent.txn, hsent.cells,
      (runEvent_keeps hu).2⟩
    case out => rw [hsent.txout, List.take_of_length_le (by simp), frameOf]
    case sum =>
      have hlen : (summedOf s).length ≤ 11 + s.txn.toNat - 6 := by
        rw [summedOf_length]
        omega
      rw [hsent.txcs, List.take_of_length_le hlen, summedOf]

end Sys2Proof.Machine
end

section
/-! PROOFS. 42_decoder.md: DECGO (R131), one received byte (R132 to R145), RXE (R146 to R149) and the reads of `RXBUF`
(R152, R153). -/

namespace Sys2Proof.Machine

variable {s : State}

/-- Settles O28: the row of the operation map, and the one next state of `DECGO`. -/
theorem decgoArmsTheDecoder : Obligations.DecgoArmsTheDecoder :=
  ⟨selects_of_decodeFields fun _ _ => rfl, fun _ => accept_eq ..⟩

/-! ### One received byte -/

/-- A compared byte answers one of two next states (R134, R135). -/
theorem next_rxPrefix (code : RxError) (b : Byte) (s : State) :
    (.next (rxPrefix code b s) : Host.Outcome State Fault Refusal) =
      if b = prefixByte s.cfg s.rxpos.toNat then .next (rxAccept s) else .next (rxfail code s) :=
  apply_ite ..

/-- Settles O29: a byte of the first six offsets is compared with the expected byte of its offset. -/
theorem headerAndAddressBytesAreCompared : Obligations.HeaderAndAddressBytesAreCompared := by
  intro s b hr accepted failed
  have header {p : Nat} (hp : s.rxpos.toNat = p) (h1 : p ≤ 1) :
      exec (.rxb b) s = if b = prefixByte s.cfg p then accepted else failed .hdr :=
    hp ▸ (rxb_header hr (hp ▸ h1)).trans (next_rxPrefix ..)
  refine ⟨fun hp => header (congrArg BitVec.toNat hp) (by decide),
    fun hp => header (congrArg BitVec.toNat hp) (by decide), ?_⟩
  rintro p h2 h5 rfl
  rw [← prefixByte_addr s.cfg _ h2 h5]
  exact (rxb_address hr h2 h5).trans (next_rxPrefix ..)

theorem rxLengthLow_of_legal {b : Byte} (h3 : 3 ≤ (be16 (hi8 s.rxlen) b).toNat)
    (hm : (be16 (hi8 s.rxlen) b).toNat - 2 ≤ s.cfg.maxp) :
    rxLengthLow b s = { rxSummed b s with rxlen := be16 (hi8 s.rxlen) b, rxn := be16 (hi8 s.rxlen) b - 2 } :=
  if_pos ((lengthLegal_iff ..).mpr ⟨h3, hm⟩)

theorem rxLengthLow_of_illegal {b : Byte}
    (h : (be16 (hi8 s.rxlen) b).toNat < 3 ∨ s.cfg.maxp < (be16 (hi8 s.rxlen) b).toNat - 2) :
    rxLengthLow b s = rxfail .len { rxSummed b s with rxlen := be16 (hi8 s.rxlen) b } :=
  if_neg fun hl => by
    rw [lengthLegal_iff] at hl
    omega

/-- `RXN <- L - 2` does not wrap for a legal length (R137). -/
theorem half_sub_two_toNat {len : Half} (h : 3 ≤ len.toNat) : (len - 2).toNat = len.toNat - 2 :=
  BitVec.toNat_sub_of_le (BitVec.le_def.mpr (Nat.le_of_succ_le h))

/-- Settles O30: each of the three bytes by its law; a latched length has the byte in one half and keeps the other. -/
theorem typeAndLengthBytesAreLatched : Obligations.TypeAndLengthBytesAreLatched := by
  intro s b hr taken
  refine ⟨fun hp => rxb_type hr (congrArg BitVec.toNat hp), fun hp => ?high, fun hp => ?low⟩
  case high => exact ⟨be16 b (lo8 s.rxlen), hi8_be16 .., lo8_be16 .., rxb_lengthHigh hr (congrArg BitVec.toNat hp)⟩
  case low =>
    have hexec : exec (.rxb b) s = .next (rxLengthLow b s) := rxb_lengthLow hr (congrArg BitVec.toNat hp)
    refine ⟨be16 (hi8 s.rxlen) b, lo8_be16 .., hi8_be16 .., fun hl => ?_, fun h3 hm => ?_⟩
    · rw [hexec, rxLengthLow_of_illegal hl]
      rfl
    · refine ⟨_, half_sub_two_toNat h3, ?_⟩
      rw [hexec, rxLengthLow_of_legal h3 hm]
      rfl

theorem rxCell_rxPayload (b : Byte) (s : State) (j : Nat) :
    rxCell (rxPayload b s) j = if j = s.rxpos.toNat - 9 then b else rxCell s j :=
  rxCell_rxStore ..

/-- Settles O31: R49(b) says that the cell exists, and a read after the write finds the byte in it alone. -/
theorem payloadBytesAreStoredInOrder : Obligations.PayloadBytesAreStoredInOrder := by
  intro s b hi hr h9 hn
  obtain ⟨-, hm, -, -⟩ := hi.runLate hr h9
  refine ⟨rxPayload b s, rxb_payload hr h9 hn (by omega), ?_, fun j hj => ?_, rfl⟩
  · rw [rxCell_rxPayload, if_pos rfl]
  · rw [rxCell_rxPayload, if_neg hj]

/-- Settles O32: each checksum byte is latched in its half of `RXCK`. -/
theorem checksumBytesCompleteTheFrame : Obligations.ChecksumBytesCompleteTheFrame := by
  intro s b _ hr h9
  exact ⟨fun hp => ⟨be16 b (lo8 s.rxck), hi8_be16 .., lo8_be16 .., rxb_checksumHigh hr h9 hp⟩,
    fun hp => ⟨be16 (hi8 s.rxck) b, lo8_be16 .., hi8_be16 .., rxb_checksumLow hr h9 hp⟩⟩

/-- R143. -/
theorem rxb_trailing {b : Byte} (hd : s.rxst = .done) : execRxb b s = .next { s with trail := true } := by
  rw [rxb_outsideRun (by simp [hd]), if_pos hd]

/-- R144, R145. -/
theorem rxb_discarded {b : Byte} (hr : s.rxst ≠ .run) (hd : s.rxst ≠ .done) : execRxb b s = .next s := by
  rw [rxb_outsideRun hr, if_neg hd]

/-- Settles O33: `DONE`, `ERR` and `IDLE` are the states outside `RUN`. -/
theorem bytesOutsideRunAreDiscarded : Obligations.BytesOutsideRunAreDiscarded :=
  fun _ _ => ⟨rxb_trailing, fun he => rxb_discarded (by simp [he]) (by simp [he]),
    fun hidle => rxb_discarded (by simp [hidle]) (by simp [hidle])⟩

/-- Settles O34: one rule applies by the invariant, and a receive symbol writes the receive side alone. -/
theorem everyReceivedByteIsTaken : Obligations.EveryReceivedByteIsTaken := by
  intro s b hi
  obtain ⟨t, ht⟩ := rxb_answers b hi.rx
  have hsymbol : rxEvent (symbolWord false b) s = .next t := by
    rwa [rxEvent, decodeSymbol_symbolWord]
  obtain ⟨htx, hhost⟩ := rxEvent_leaves hsymbol
  exact ⟨t, ht, htx, hhost, (runEvent_keeps (e := .rx _) hsymbol).2⟩

/-! ### The end of the received data, and the reads -/

/-- Settles O35: the three cases of `RXE`. -/
theorem rxeEndsTheReception : Obligations.RxeEndsTheReception :=
  fun _ => ⟨rxe_complete, fun hr hp => rxe_short hr (Nat.not_le.mpr hp), rxe_outsideRun⟩

/-- Settles O36: the two rows of the operation map, and the test of the index, which is the larger one for a word. -/
theorem bufferReadsReturnTheirCells : Obligations.BufferReadsReturnTheirCells := by
  refine ⟨selects_of_decodeFields fun _ _ => rfl, selects_of_decodeFields fun _ _ => rfl, fun s i => ?_⟩
  have absent {k : Nat} (hk : s.cfg.maxp ≤ k) : ¬ cellExists s k = true := by simpa using hk
  refine ⟨fun hi => ⟨zext16 (rxCell s i.toNat), zext16_toNat _, ?byte⟩, fun hi => ?noByte,
    fun hi => ⟨be16 (rxCell s i.toNat) (rxCell s (i.toNat + 1)), be16_toNat .., ?word⟩, fun hi => ?noWord⟩
  case byte => exact (if_pos ((cellExists_iff ..).mpr hi)).trans (accept_eq ..)
  case noByte => exact (if_neg (absent hi)).trans (refuse_eq ..)
  case word => exact (if_pos ((cellExists_iff ..).mpr hi)).trans (accept_eq ..)
  case noWord => exact (if_neg (absent hi)).trans (refuse_eq ..)

end Sys2Proof.Machine
end

section
/-! PROOFS. 42_decoder.md: the transitions of `RXST` (R156). -/

namespace Sys2Proof.Machine

variable {s t : State} {e : Event}

/-- R156: the event `e` takes the decoder to another state, for one of the listed reasons. -/
inductive Transition (s : State) (e : Event) : RxState → Prop where
  | reset (he : Event.isReset e = true) : Transition s e .idle
  | arm (he : Event.hostDoes .decgo e) : Transition s e .run
  | lastByte {b : Byte} (hr : s.rxst = .run) (he : Event.received e = some (.rxb b))
      (hp : s.rxpos.toNat = 10 + s.rxn.toNat) : Transition s e .done
  | ended (hr : s.rxst = .run) (he : Event.received e = some .rxe) (hp : 9 + s.rxn.toNat ≤ s.rxpos.toNat) :
      Transition s e .done
  | mismatch {b : Byte} (hr : s.rxst = .run) (he : Event.received e = some (.rxb b)) (hp : s.rxpos.toNat ≤ 5)
      (hb : b ≠ prefixByte s.cfg s.rxpos.toNat) : Transition s e .err
  | badLength {b : Byte} (hr : s.rxst = .run) (he : Event.received e = some (.rxb b)) (hp : s.rxpos.toNat = 8)
      (hl : (be16 (hi8 s.rxlen) b).toNat < 3 ∨ s.cfg.maxp + 2 < (be16 (hi8 s.rxlen) b).toNat) :
      Transition s e .err
  | short (hr : s.rxst = .run) (he : Event.received e = some .rxe) (hp : s.rxpos.toNat < 9 + s.rxn.toNat) :
      Transition s e .err

/-- A low length byte fails the decode by an illegal length only (R137). -/
theorem illegal_of_rxLengthLow_err {b : Byte} (hr : s.rxst = .run) (h : (rxLengthLow b s).rxst = .err) :
    (be16 (hi8 s.rxlen) b).toNat < 3 ∨ s.cfg.maxp + 2 < (be16 (hi8 s.rxlen) b).toNat := by
  by_contra hlegal
  rw [rxLengthLow_of_legal (by omega) (by omega), rxSummed_rxst, hr] at h
  cases h

theorem execRxb_transition {b : Byte} (he : Event.received e = some (.rxb b)) (h : execRxb b s = .next t) :
    t.rxst = s.rxst ∨ Transition s e t.rxst := by
  cases execRxb_effect h with
  | mismatched _ _ hr hp hb => exact .inr (.mismatch hr he hp hb)
  | badLength len hr hp =>
    have hout := Host.Outcome.next.inj ((rxb_lengthLow hr hp).symm.trans h)
    exact .inr (.badLength hr he hp (illegal_of_rxLengthLow_err hr (hout ▸ rfl)))
  | checksumLow hr _ hp => exact .inr (.lastByte hr he hp)
  | _ => exact .inl rfl

theorem execRxe_transition (he : Event.received e = some .rxe) (h : execRxe s = .next t) :
    t.rxst = s.rxst ∨ Transition s e t.rxst := by
  by_cases hr : s.rxst = .run
  · by_cases hp : 9 + s.rxn.toNat ≤ s.rxpos.toNat
    · cases (rxe_complete hr hp).symm.trans h
      exact .inr (.ended hr he hp)
    · cases (rxe_short hr hp).symm.trans h
      exact .inr (.short hr he (Nat.not_le.mp hp))
  · cases (rxe_outsideRun hr).symm.trans h
    exact .inl rfl

/-- Every event leaves `RXST` or makes one of the listed transitions. -/
theorem EventEffect.transition (h : EventEffect s e t) : t.rxst = s.rxst ∨ Transition s e t.rxst := by
  cases h with
  | host hd he =>
    cases he with
    | decgo hi => exact .inr (.arm (Event.hostDoes_of_decode (hi ▸ hd)))
    | _ => exact .inl rfl
  | reserved => exact .inl rfl
  | turn h =>
    obtain ⟨-, -, -, ⟨⟨hst, -⟩, -⟩, -⟩ := encoderTurn_leaves h
    exact .inl hst
  | symbol h =>
    rcases rxEvent_cases h with ⟨b, hd, hb⟩ | ⟨hd, he⟩
    · exact execRxb_transition (congrArg some hd) hb
    · exact execRxe_transition (congrArg some hd) he
  | reset p => cases p <;> exact .inr (.reset rfl)

/-- Settles O37: the transitions that lead to each state, read off the list. -/
theorem receiveTransitionsAreComplete : Obligations.ReceiveTransitionsAreComplete := by
  intro s t e _ hrun
  have h := (runEvent_effect hrun).transition
  refine ⟨fun ht => ?idle, fun hs ht => ?run, fun hs ht => ?done, fun hs ht => ?err⟩ <;> rw [ht] at h
  case idle =>
    rcases h with hsame | htransition
    · exact .inl hsame.symm
    · cases htransition with
      | reset hreset => exact .inr hreset
  all_goals have h := h.resolve_left (Ne.symm hs)
  case run =>
    cases h with
    | arm harm => exact harm
  case done =>
    cases h with
    | lastByte hr hb hp => exact ⟨hr, by omega, .inl ⟨_, hb, hp⟩⟩
    | ended hr he hp => exact ⟨hr, hp, .inr he⟩
  case err =>
    cases h with
    | mismatch hr hb hp hne => exact ⟨hr, .inl ⟨_, hb, hp, hne⟩⟩
    | badLength hr hb hp hl => exact ⟨hr, .inr (.inl ⟨_, hb, hp, hl⟩)⟩
    | short hr he hp => exact ⟨hr, .inr (.inr ⟨he, hp⟩)⟩

end Sys2Proof.Machine
end

section
/-! PROOFS. 42_decoder.md: the cases of a whole decode (R150). -/

namespace Sys2Proof.Machine

variable {c : Config} {bs : List Byte} {b : Byte} {i n : Nat} {s t u : State}

/-! ### One more received byte -/

theorem getD_concat (bs : List Byte) (b : Byte) (k : Nat) :
    (bs ++ [b]).getD k 0 = if bs.length = k then b else bs.getD k 0 := by
  rcases Nat.lt_trichotomy k bs.length with h | rfl | h
  · rw [List.getD_append _ _ _ _ h, if_neg h.ne']
  · simp
  · rw [List.getD_eq_default, List.getD_eq_default, if_neg h.ne]
    · exact h.le
    · simpa using h

/-- The checksum of the bytes from offset 6 on takes a byte in while it is one of the summed `m` (R142). -/
theorem csum16_summed_concat (bs : List Byte) (b : Byte) (m : Nat) :
    csum16 (((bs ++ [b]).drop 6).take m) =
      if 6 ≤ bs.length ∧ bs.length < 6 + m then addByte (csum16 ((bs.drop 6).take m)) b
      else csum16 ((bs.drop 6).take m) := by
  by_cases h6 : 6 ≤ bs.length
  · rw [List.drop_append_of_le_length h6]
    by_cases hm : bs.length < 6 + m
    · have hall : (bs.drop 6).length < m := by rw [List.length_drop]; omega
      rw [if_pos ⟨h6, hm⟩, List.take_of_length_le (by simpa using hall), List.take_of_length_le hall.le,
        csum16_concat]
    · rw [if_neg (by omega), List.take_append_of_le_length (by rw [List.length_drop]; omega)]
  · have hnone : (bs ++ [b]).drop 6 = [] := List.drop_eq_nil_of_le (by simp; omega)
    have hnone' : bs.drop 6 = [] := List.drop_eq_nil_of_le (by omega)
    rw [if_neg (by omega), hnone, hnone']

theorem prefixMatches_concat :
    PrefixMatches c (bs ++ [b]) ↔ PrefixMatches c bs ∧ (bs.length < 6 → b = prefixByte c bs.length) := by
  simp only [PrefixMatches, getD_concat, List.length_append, List.length_singleton]
  constructor
  · refine fun h => ⟨fun j h6 hj => ?_, fun h6 => ?_⟩
    · simpa [hj.ne'] using h j h6 (by omega)
    · simpa using h bs.length h6 (by omega)
  · rintro ⟨hold, hnew⟩ j h6 hj
    split
    case isTrue hlen => exact hlen ▸ hnew (hlen ▸ h6)
    case isFalse hlen => exact hold j h6 (by omega)

theorem receivedLength_concat (h : 9 ≤ bs.length) : receivedLength (bs ++ [b]) = receivedLength bs := by
  simp (disch := omega) only [receivedLength, getD_concat, if_neg]

/-! ### The conditions of the cases -/

/-- R150's case 1: `i` is the least offset at which the bytes differ from the expected ones. -/
structure MismatchAt (c : Config) (bs : List Byte) (i : Nat) : Prop where
  lt_six    : i < 6
  lt_length : i < bs.length
  before    : PrefixMatches c (bs.take i)
  differs   : bs.getD i 0 ≠ prefixByte c i

/-- R150's case 3: the length field is complete and illegal. -/
structure BadLength (c : Config) (bs : List Byte) : Prop where
  before  : PrefixMatches c bs
  known   : 9 ≤ bs.length
  illegal : (receivedLength bs).toNat < 3 ∨ c.maxp + 2 < (receivedLength bs).toNat

/-- What R150's cases 4 and 5 share: the length field is complete and announces `n` payload bytes. -/
structure Announces (c : Config) (bs : List Byte) (n : Nat) : Prop where
  before : PrefixMatches c bs
  known  : 9 ≤ bs.length
  count  : (receivedLength bs).toNat = n + 2
  pos    : 1 ≤ n
  le     : n ≤ c.maxp

theorem MismatchAt.not_prefixMatches (h : MismatchAt c bs i) : ¬ PrefixMatches c bs :=
  fun hpre => h.differs (hpre i h.lt_six h.lt_length)

/-- The bytes before a mismatch match, so there is no earlier one. -/
theorem MismatchAt.not_lt {j : Nat} (h : MismatchAt c bs i) (h' : MismatchAt c bs j) : ¬ i < j := fun hij => by
  refine h.differs ?_
  have hbefore := h'.before i h.lt_six (by rw [List.length_take]; exact lt_min hij h.lt_length)
  rwa [List.getD_eq_getElem?_getD, List.getElem?_take_of_lt hij, ← List.getD_eq_getElem?_getD] at hbefore

theorem MismatchAt.unique {j : Nat} (h : MismatchAt c bs i) (h' : MismatchAt c bs j) : i = j :=
  Nat.le_antisymm (Nat.not_lt.mp (h'.not_lt h)) (Nat.not_lt.mp (h.not_lt h'))

theorem MismatchAt.concat (h : MismatchAt c bs i) : MismatchAt c (bs ++ [b]) i where
  lt_six := h.lt_six
  lt_length := h.lt_length.trans_le (by simp)
  before := by rw [List.take_append_of_le_length h.lt_length.le]; exact h.before
  differs := by rw [getD_concat, if_neg h.lt_length.ne']; exact h.differs

/-- A byte that differs from the expected one, after bytes that match. -/
theorem mismatchAt_concat (hpre : PrefixMatches c bs) (h6 : bs.length < 6) (hb : b ≠ prefixByte c bs.length) :
    MismatchAt c (bs ++ [b]) bs.length where
  lt_six := h6
  lt_length := by simp
  before := by simpa using hpre
  differs := by simpa using hb

theorem prefixMatches_concat_of_known (hpre : PrefixMatches c bs) (h : 9 ≤ bs.length) : PrefixMatches c (bs ++ [b]) :=
  prefixMatches_concat.mpr ⟨hpre, by omega⟩

theorem BadLength.concat (h : BadLength c bs) : BadLength c (bs ++ [b]) where
  before := prefixMatches_concat_of_known h.before h.known
  known := h.known.trans (by simp)
  illegal := receivedLength_concat (b := b) h.known ▸ h.illegal

theorem Announces.concat (h : Announces c bs n) : Announces c (bs ++ [b]) n where
  before := prefixMatches_concat_of_known h.before h.known
  known := h.known.trans (by simp)
  count := receivedLength_concat (b := b) h.known ▸ h.count
  pos := h.pos
  le := h.le

theorem Announces.unique {m : Nat} (h : Announces c bs n) (h' : Announces c bs m) : n = m := by
  have := h.count
  have := h'.count
  omega

/-! ### The cases exclude each other -/

theorem MismatchAt.outcome (h : MismatchAt c bs i) (hf : FailedAt t (if i ≤ 1 then .hdr else .addr) i) :
    DecodeOutcome c bs t where
  mismatch _ h6 hlen hpre hne := h.unique ⟨h6, hlen, hpre, hne⟩ ▸ hf
  early hpre := absurd hpre h.not_prefixMatches
  badLen hpre := absurd hpre h.not_prefixMatches
  late _ hpre := absurd hpre h.not_prefixMatches
  success _ hpre := absurd hpre h.not_prefixMatches

theorem outcome_of_early (hpre : PrefixMatches c bs) (h : bs.length < 9) (hf : FailedAt t .short bs.length) :
    DecodeOutcome c bs t where
  mismatch _ h6 hlen _ hne := absurd (hpre _ h6 hlen) hne
  early _ _ := hf
  badLen _ h9 := absurd h9 (Nat.not_le.mpr h)
  late _ _ h9 := absurd h9 (Nat.not_le.mpr h)
  success _ _ h9 := absurd h9 (Nat.not_le.mpr h)

theorem BadLength.outcome (h : BadLength c bs) (hf : FailedAt t .len 9) (hlen : t.rxlen = receivedLength bs)
    (htype : t.rxtype = bs.getD 6 0) : DecodeOutcome c bs t := by
  have hlegal : ∀ n, (receivedLength bs).toNat = n + 2 → 1 ≤ n → ¬ n ≤ c.maxp := by
    have := h.illegal
    omega
  exact {
    mismatch := fun _ h6 hlen _ hne => absurd (h.before _ h6 hlen) hne
    early := fun _ h9 => absurd h.known (Nat.not_le.mpr h9)
    badLen := fun _ _ _ => ⟨hf, hlen, htype⟩
    late := fun n _ _ hn h1 hm => absurd hm (hlegal n hn h1)
    success := fun n _ _ hn h1 hm => absurd hm (hlegal n hn h1) }

/-- With a legal length only the cases 4 and 5 are left, and the number of bytes tells which. -/
theorem Announces.outcome (h : Announces c bs n) (late : bs.length < 9 + n → FailedAt t .short bs.length)
    (success : 9 + n ≤ bs.length → Decoded bs n t) : DecodeOutcome c bs t where
  mismatch _ h6 hlen _ hne := absurd (h.before _ h6 hlen) hne
  early _ h9 := absurd h.known (Nat.not_le.mpr h9)
  badLen _ _ hl := by
    obtain ⟨-, -, hn, h1, hm⟩ := h
    omega
  late _ hpre h9 hn h1 hm := h.unique ⟨hpre, h9, hn, h1, hm⟩ ▸ late
  success _ hpre h9 hn h1 hm := h.unique ⟨hpre, h9, hn, h1, hm⟩ ▸ success

end Sys2Proof.Machine
end

section
/-! PROOFS. 42_decoder.md: the state of a reception after each byte (R150). -/

namespace Sys2Proof.Machine

variable {c : Config} {bs : List Byte} {b : Byte} {i n : Nat} {s t u : State}

/-! ### What an accepted byte latches -/

/-- `t` is `s` after it has latched the byte `b` in the place of its offset (R136 to R141), in a frame of `n` payload
bytes. -/
structure Latches (b : Byte) (n : Nat) (s t : State) : Prop where
  type  : t.rxtype = if s.rxpos.toNat = 6 then b else s.rxtype
  len   : t.rxlen =
    be16 (if s.rxpos.toNat = 7 then b else hi8 s.rxlen) (if s.rxpos.toNat = 8 then b else lo8 s.rxlen)
  sum   : t.rxcs = if 6 ≤ s.rxpos.toNat ∧ s.rxpos.toNat < 6 + (3 + n) then addByte s.rxcs b else s.rxcs
  ck    : t.rxck =
    be16 (if s.rxpos.toNat = 9 + n then b else hi8 s.rxck) (if s.rxpos.toNat = 10 + n then b else lo8 s.rxck)
  cells : ∀ j, j < n → rxCell t j = if s.rxpos.toNat = 9 + j then b else rxCell s j

theorem latches_rxAccept (h5 : s.rxpos.toNat ≤ 5) : Latches b n s (rxAccept s) := by
  refine ⟨?_, ?_, ?_, ?_, fun j hj => ?_⟩ <;> simp (disch := omega) [if_neg]

theorem latches_rxPackageType (h : s.rxpos.toNat = 6) : Latches b n s (rxPackageType b s) := by
  refine ⟨?_, ?_, ?_, ?_, fun j hj => ?_⟩ <;> simp (disch := omega) [if_pos, if_neg, rxPackageType, rxCell]

theorem latches_rxLengthHigh (h : s.rxpos.toNat = 7) : Latches b n s (rxLengthHigh b s) := by
  refine ⟨?_, ?_, ?_, ?_, fun j hj => ?_⟩ <;> simp (disch := omega) [if_pos, if_neg, rxLengthHigh, rxCell]

theorem latches_rxLengthLow (h : s.rxpos.toNat = 8) : Latches b n s (rxLengthLow b s) := by
  unfold rxLengthLow
  dsimp only
  split
  all_goals refine ⟨?_, ?_, ?_, ?_, fun j hj => ?_⟩ <;> simp (disch := omega) [if_pos, if_neg, rxCell]

theorem latches_rxPayload (h9 : 9 ≤ s.rxpos.toNat) (hn : s.rxpos.toNat ≤ 8 + n) :
    Latches b n s (rxPayload b s) := by
  have hindex (j : Nat) : j = s.rxpos.toNat - 9 ↔ s.rxpos.toNat = 9 + j := by omega
  refine ⟨?_, ?_, ?_, ?_, fun j hj => ?_⟩ <;>
    simp (disch := omega) [if_pos, if_neg, rxPayload, rxCell_rxStore, hindex]

theorem latches_rxChecksumHigh (h : s.rxpos.toNat = 9 + n) : Latches b n s (rxChecksumHigh b s) := by
  refine ⟨?_, ?_, ?_, ?_, fun j hj => ?_⟩ <;> simp (disch := omega) [if_pos, if_neg, rxChecksumHigh, rxCell]

theorem latches_rxChecksumLow (h : s.rxpos.toNat = 10 + n) : Latches b n s (rxChecksumLow b s) := by
  refine ⟨?_, ?_, ?_, ?_, fun j hj => ?_⟩ <;> simp (disch := omega) [if_pos, if_neg, rxChecksumLow, rxCell]

/-- The receive side of `t` holds what the received bytes `bs` of a frame of `n` payload bytes latch. -/
structure Latched (bs : List Byte) (n : Nat) (t : State) : Prop where
  type  : t.rxtype = bs.getD 6 0
  len   : t.rxlen = receivedLength bs
  sum   : t.rxcs = csum16 ((bs.drop 6).take (3 + n))
  ck    : t.rxck = be16 (bs.getD (9 + n) 0) (bs.getD (10 + n) 0)
  cells : ∀ j, j < n → 9 + j < bs.length → rxCell t j = bs.getD (9 + j) 0

@[simp] theorem be16_zero : be16 0#8 0#8 = 0#16 := rfl

theorem latched_armed (s : State) (n : Nat) : Latched [] n (afterAccept 0 (armDecoder s)) :=
  ⟨rfl, rfl, by simp, by simp, by simp⟩

theorem Latched.concat (h : Latched bs n s) (hp : s.rxpos.toNat = bs.length) (hl : Latches b n s t) :
    Latched (bs ++ [b]) n t where
  type := by rw [hl.type, hp, getD_concat, h.type]
  len := by simp only [hl.len, hp, receivedLength, getD_concat, h.len, hi8_be16, lo8_be16]
  sum := by rw [hl.sum, hp, csum16_summed_concat, h.sum]
  ck := by simp only [hl.ck, hp, getD_concat, h.ck, hi8_be16, lo8_be16]
  cells j hj hlen := by
    rw [hl.cells j hj, hp, getD_concat]
    split
    case isTrue => rfl
    case isFalse hne =>
      rw [List.length_append, List.length_singleton] at hlen
      exact h.cells j hj (by omega)

/-- Before the length is complete the number of payload bytes has no part in what is latched. -/
theorem Latched.of_early {m : Nat} (h : Latched bs n t) (hp : bs.length ≤ 8) : Latched bs m t where
  type := h.type
  len := h.len
  sum := by
    rw [h.sum, List.take_of_length_le (by simp; omega), List.take_of_length_le (by simp; omega)]
  ck := by
    rw [h.ck]
    simp (disch := omega) only [List.getD_eq_default]
  cells _ _ hlen := by omega

/-! ### A reception in progress -/

/-- The decoder of `t` has accepted all of the bytes `bs` and expects more. -/
structure Running (c : Config) (bs : List Byte) (t : State) : Prop where
  st      : t.rxst = .run
  pos     : t.rxpos.toNat = bs.length
  before  : PrefixMatches c bs
  latched : Latched bs t.rxn.toNat t

theorem running_armed (s : State) : Running c [] (afterAccept 0 (armDecoder s)) :=
  ⟨rfl, rfl, by simp [PrefixMatches], latched_armed s _⟩

/-- R49(b): in `RUN` the length, once complete, is legal and announces `RXN` bytes. -/
theorem Running.announces (h : Running c bs t) (hi : RxInv t) (hc : t.cfg = c) (h9 : 9 ≤ bs.length) :
    Announces c bs t.rxn.toNat ∧ bs.length ≤ 10 + t.rxn.toNat := by
  obtain ⟨h1, hm, hlen, hp⟩ := hi.runLate h.st (h.pos ▸ h9)
  exact ⟨⟨h.before, h9, h.latched.len ▸ hlen, h1, hc ▸ hm⟩, h.pos ▸ hp⟩

/-- While the decoder runs, the bytes have not decided the outcome. -/
theorem Running.not_decidedEarly (h : Running c bs t) (hi : RxInv t) (hc : t.cfg = c) : ¬ DecidedEarly c bs := by
  rintro (⟨i, h6, hlen, hne⟩ | ⟨-, h9, hbad⟩ | ⟨-, n, hcount, h1, -, hlen⟩)
  · exact hne (h.before i h6 hlen)
  · obtain ⟨ha, -⟩ := h.announces hi hc h9
    have := ha.count
    have := ha.le
    have := ha.pos
    omega
  · obtain ⟨ha, hle⟩ := h.announces hi hc (by omega)
    have := ha.count
    omega

/-- The byte `b` is accepted and the decoder runs on. -/
theorem Running.concat (h : Running c bs s) (hi : MachineInv s) (hst : t.rxst = .run) (hp : t.rxpos = s.rxpos + 1)
    (hpre : bs.length < 6 → b = prefixByte c bs.length) (hn : bs.length ≤ 8 ∨ t.rxn = s.rxn)
    (hl : Latches b t.rxn.toNat s t) : Running c (bs ++ [b]) t where
  st := hst
  pos := by rw [hp, hi.rx.rxpos_succ hi.params h.st, h.pos, List.length_append, List.length_singleton]
  before := prefixMatches_concat.mpr ⟨h.before, hpre⟩
  latched := by
    have hlatched : Latched bs t.rxn.toNat s := by
      rcases hn with hn | hn
      · exact h.latched.of_early hn
      · exact hn ▸ h.latched
    exact hlatched.concat h.pos hl

/-! ### The outcome as far as the bytes decide it -/

/-- Where the decoder of `t` stands after the bytes `bs`: still running, or in one of the cases that "do not wait for
`RXE`" (R150). -/
inductive Reception (c : Config) (bs : List Byte) (t : State) : Prop where
  | running (h : Running c bs t)
  | mismatched {i : Nat} (h : MismatchAt c bs i) (hf : FailedAt t (if i ≤ 1 then .hdr else .addr) i)
  | badLength (h : BadLength c bs) (hf : FailedAt t .len 9) (hlen : t.rxlen = receivedLength bs)
      (htype : t.rxtype = bs.getD 6 0)
  | complete {n : Nat} (h : Announces c bs n) (hlen : 11 + n ≤ bs.length) (hd : Decoded bs n t)

/-- A surplus byte (R143). -/
theorem Decoded.concat (h : Decoded bs n t) (hlen : 11 + n ≤ bs.length) :
    Decoded (bs ++ [b]) n { t with trail := true } := by
  have hlen' : (bs ++ [b]).length = bs.length + 1 := by simp
  obtain ⟨hpres, hck, hok, hpos, -⟩ := h.full hlen
  exact {
    st := h.st
    type := by simpa (disch := omega) only [getD_concat, if_neg] using h.type
    len := by rw [receivedLength_concat (by omega)]; exact h.len
    count := h.count
    cells := fun j hj => by rw [getD_concat, if_neg (by omega)]; exact h.cells j hj
    sum := by rw [csum16_summed_concat, if_neg (by omega)]; exact h.sum
    full := fun _ => ⟨hpres, by simpa (disch := omega) only [getD_concat, if_neg] using hck, hok, hpos,
      iff_of_true rfl (by omega)⟩
    half := by omega
    bare := by omega }

theorem Running.compared {code : RxError} (h : Running c bs s) (hi : MachineInv s) (hc : s.cfg = c)
    (h5 : bs.length ≤ 5) (hcode : code = if bs.length ≤ 1 then .hdr else .addr) :
    Reception c (bs ++ [b]) (rxPrefix code b s) := by
  have h6 : bs.length < 6 := by omega
  unfold rxPrefix
  rw [h.pos, hc]
  split
  case isTrue hb => exact .running (h.concat hi h.st rfl (fun _ => hb) (.inr rfl) (latches_rxAccept (h.pos ▸ h5)))
  case isFalse hb => exact .mismatched (mismatchAt_concat h.before h6 hb) ⟨rfl, hcode, h.pos⟩

theorem Running.lengthLow (h : Running c bs s) (hi : MachineInv s) (hc : s.cfg = c) (h8 : bs.length = 8) :
    Reception c (bs ++ [b]) (rxLengthLow b s) := by
  have hp : s.rxpos.toNat = 8 := h.pos.trans h8
  have hlatched : Latched (bs ++ [b]) s.rxn.toNat (rxLengthLow b s) :=
    h.latched.concat h.pos (latches_rxLengthLow hp)
  by_cases hlegal : 3 ≤ (be16 (hi8 s.rxlen) b).toNat ∧ (be16 (hi8 s.rxlen) b).toNat - 2 ≤ s.cfg.maxp
  case pos =>
    have heq := rxLengthLow_of_legal hlegal.1 hlegal.2
    exact .running (h.concat hi (by rw [heq]; exact h.st) (by rw [heq]; rfl) (by omega) (.inl h8.le)
      (latches_rxLengthLow hp))
  case neg =>
    have heq : rxLengthLow b s = _ := rxLengthLow_of_illegal (by omega)
    have hlen : be16 (hi8 s.rxlen) b = receivedLength (bs ++ [b]) := by rw [← hlatched.len, heq]; rfl
    have hbad : BadLength c (bs ++ [b]) :=
      ⟨prefixMatches_concat.mpr ⟨h.before, by omega⟩, by simp; omega, by rw [← hlen, ← hc]; omega⟩
    have hpos : (rxLengthLow b s).rxpos.toNat = 9 := by
      rw [heq, rxfail_rxpos, rxSummed_rxpos, hi.rx.rxpos_succ hi.params h.st, hp]
    exact .badLength hbad ⟨by rw [heq]; rfl, by rw [heq]; rfl, hpos⟩ hlatched.len hlatched.type

theorem Running.checksumLow (h : Running c bs s) (hi : MachineInv s) (hc : s.cfg = c) (h9 : 9 ≤ bs.length)
    (hp : s.rxpos.toNat = 10 + s.rxn.toNat) : Reception c (bs ++ [b]) (rxChecksumLow b s) := by
  obtain ⟨-, -, -, htrail⟩ := hi.rx.undecided h.st
  obtain ⟨ha, -⟩ := h.announces hi.rx hc h9
  have hlen : (bs ++ [b]).length = 11 + s.rxn.toNat := by
    rw [List.length_append, List.length_singleton, ← h.pos, hp]
    omega
  have hpos : (rxChecksumLow b s).rxpos.toNat = 11 + s.rxn.toNat := by
    rw [← hlen, List.length_append, List.length_singleton, ← h.pos]
    exact hi.rx.rxpos_succ hi.params h.st
  have hlatched : Latched (bs ++ [b]) s.rxn.toNat (rxChecksumLow b s) :=
    h.latched.concat h.pos (latches_rxChecksumLow hp)
  exact .complete ha.concat hlen.ge {
    st := rfl
    type := hlatched.type
    len := hlatched.len
    count := rfl
    cells := fun j hj => hlatched.cells j hj (by omega)
    sum := hlatched.sum
    full := fun _ =>
      ⟨rfl, hlatched.ck, decide_eq_true_iff, hpos, iff_of_false (by simp [rxChecksumLow, htrail]) (by omega)⟩
    half := by omega
    bare := by omega }

/-- A byte received while the decoder runs, by the phase of the frame (R133). -/
theorem Running.byte (h : Running c bs s) (hi : MachineInv s) (hc : s.cfg = c) (hu : execRxb b s = .next t) :
    Reception c (bs ++ [b]) t := by
  have hr := h.st
  have hp := h.pos
  have eq_of {u : State} (he : execRxb b s = .next u) : u = t := Host.Outcome.next.inj (he.symm.trans hu)
  rcases rxb_phases hi.rx hr with h1 | ⟨h2, h5⟩ | h6 | h7 | h8 | ⟨h9, hn, hcell⟩ | ⟨h9, hn⟩ | ⟨h9, hn⟩
  · exact eq_of (rxb_header hr h1) ▸ h.compared hi hc (by omega) (if_pos (hp ▸ h1)).symm
  · exact eq_of (rxb_address hr h2 h5) ▸ h.compared hi hc (hp ▸ h5) (if_neg (by omega)).symm
  · exact eq_of (rxb_type hr h6) ▸
      .running (h.concat hi hr rfl (by omega) (.inr rfl) (latches_rxPackageType h6))
  · exact eq_of (rxb_lengthHigh hr h7) ▸
      .running (h.concat hi hr rfl (by omega) (.inr rfl) (latches_rxLengthHigh h7))
  · exact eq_of (rxb_lengthLow hr h8) ▸ h.lengthLow hi hc (hp ▸ h8)
  · exact eq_of (rxb_payload hr h9 hn hcell) ▸
      .running (h.concat hi hr rfl (by omega) (.inr rfl) (latches_rxPayload h9 hn))
  · exact eq_of (rxb_checksumHigh hr h9 hn) ▸
      .running (h.concat hi hr rfl (by omega) (.inr rfl) (latches_rxChecksumHigh hn))
  · exact eq_of (rxb_checksumLow hr h9 hn) ▸ h.checksumLow hi hc (hp ▸ h9) hn

/-- Every received byte (R132). -/
theorem Reception.byte (h : Reception c bs s) (hi : MachineInv s) (hc : s.cfg = c) (hu : execRxb b s = .next t) :
    Reception c (bs ++ [b]) t := by
  have discarded (he : s.rxst = .err) : s = t :=
    Host.Outcome.next.inj ((rxb_discarded (by simp [he]) (by simp [he])).symm.trans hu)
  cases h with
  | running h => exact h.byte hi hc hu
  | mismatched h hf => exact discarded hf.1 ▸ .mismatched h.concat hf
  | badLength h hf hlen htype =>
    have h9 := h.known
    refine discarded hf.1 ▸ .badLength h.concat hf ?_ ?_
    · rw [receivedLength_concat h9, hlen]
    · rw [getD_concat, if_neg (by omega), htype]
  | complete h hlen hd =>
    cases (rxb_trailing hd.st).symm.trans hu
    exact .complete h.concat (hlen.trans (by simp)) (hd.concat hlen)

/-! ### The end of the received data -/

/-- Once the decoder has stopped, its state is the outcome. -/
theorem Reception.running_or_outcome (h : Reception c bs t) :
    Running c bs t ∨ (t.rxst ≠ .run ∧ DecodeOutcome c bs t) := by
  cases h with
  | running h => exact .inl h
  | mismatched h hf => exact .inr ⟨by simp [hf.1], h.outcome hf⟩
  | badLength h hf hlen htype => exact .inr ⟨by simp [hf.1], h.outcome hf hlen htype⟩
  | complete h hlen hd => exact .inr ⟨by simp [hd.st], h.outcome (by omega) fun _ => hd⟩

/-- `RXE` with all payload bytes received (R147). -/
theorem Running.ended (h : Running c bs s) (hi : RxInv s) (hc : s.cfg = c) (hp : 9 + s.rxn.toNat ≤ s.rxpos.toNat) :
    DecodeOutcome c bs { s with rxst := .done } := by
  have hpos := h.pos
  obtain ⟨-, hpres, hok, htrail⟩ := hi.undecided h.st
  obtain ⟨ha, hle⟩ := h.announces hi hc (by omega)
  refine ha.outcome (by omega) fun hlen => ?_
  exact {
    st := rfl
    type := h.latched.type
    len := h.latched.len
    count := rfl
    cells := fun j hj => h.latched.cells j hj (by omega)
    sum := h.latched.sum
    full := by omega
    half := fun hlen => ⟨hpres, hok, by simp [h.latched.ck, be16_toNat, hlen], hpos.trans hlen, htrail⟩
    bare := fun hlen => ⟨hpres, hok, by simp [h.latched.ck, hlen], hpos.trans hlen, htrail⟩ }

/-- `RXE` with a payload byte missing (R148). -/
theorem Running.endedShort (h : Running c bs s) (hi : RxInv s) (hc : s.cfg = c)
    (hp : ¬ 9 + s.rxn.toNat ≤ s.rxpos.toNat) : DecodeOutcome c bs (rxfail .short s) := by
  have hpos := h.pos
  have hf : FailedAt (rxfail .short s) .short bs.length := ⟨rfl, rfl, hpos⟩
  by_cases h9 : 9 ≤ bs.length
  · exact (h.announces hi hc h9).1.outcome (fun _ => hf) (by omega)
  · exact outcome_of_early h.before (Nat.not_le.mp h9) hf

theorem Reception.rxe (h : Reception c bs s) (hi : RxInv s) (hc : s.cfg = c) (hu : execRxe s = .next t) :
    DecodeOutcome c bs t := by
  have eq_of {u : State} (he : execRxe s = .next u) : u = t := Host.Outcome.next.inj (he.symm.trans hu)
  rcases h.running_or_outcome with hrun | ⟨hr, ho⟩
  · by_cases hp : 9 + s.rxn.toNat ≤ s.rxpos.toNat
    · exact eq_of (rxe_complete hrun.st hp) ▸ hrun.ended hi hc hp
    · exact eq_of (rxe_short hrun.st hp) ▸ hrun.endedShort hi hc hp
  · exact eq_of (rxe_outsideRun hr) ▸ ho

end Sys2Proof.Machine
end

section
/-! PROOFS. 42_decoder.md: the whole decode, whatever is interleaved (R150). -/

namespace Sys2Proof.Machine

variable {c : Config} {bs : List Byte} {n : Nat} {s t u : State} {e : Event}

/-! ### What is interleaved leaves the reception alone -/

/-- A host operation other than `DECGO`, and the encoder's turn, leave the receive side (R51). -/
theorem sameRx_of_quiet (hk : Event.keepsReception e = true) (hq : Event.received e = none)
    (h : runEvent e s = .next t) : SameRx s t := by
  have he := runEvent_effect h
  constructor
  · by_contra hne
    rcases rxRegs_writers he hne with ⟨cw, rfl, hd⟩ | ⟨rs, rfl⟩ | hreset
    · simp [Event.keepsReception, hd] at hk
    · cases hq
    · cases e with
      | reset => cases hk
      | _ => cases hreset
  · intro j
    by_contra hne
    rcases rxCell_writers he hne with ⟨b, hb⟩ | rfl
    · cases hq.symm.trans hb
    · cases hk

theorem FailedAt.of_sameRx {code : RxError} (h : FailedAt s code n) (hs : SameRx s t) : FailedAt t code n := by
  obtain ⟨⟨hst, hpos, -, -, -, -, -, -, -, -, herr⟩, -⟩ := hs
  rwa [FailedAt, hst, herr, hpos]

theorem Decoded.of_sameRx (h : Decoded bs n s) (hs : SameRx s t) : Decoded bs n t := by
  obtain ⟨⟨hst, hpos, hcs, htype, hlen, hn, hck, hpres, hok, htrail, -⟩, hcell⟩ := hs
  constructor <;> simp only [hst, hpos, hcs, htype, hlen, hn, hck, hpres, hok, htrail, hcell]
  exacts [h.st, h.type, h.len, h.count, h.cells, h.sum, h.full, h.half, h.bare]

theorem DecodeOutcome.of_sameRx (h : DecodeOutcome c bs s) (hs : SameRx s t) : DecodeOutcome c bs t where
  mismatch i h6 hlen hpre hne := (h.mismatch i h6 hlen hpre hne).of_sameRx hs
  early hpre h9 := (h.early hpre h9).of_sameRx hs
  badLen hpre h9 hl := by
    obtain ⟨hf, hlen, htype⟩ := h.badLen hpre h9 hl
    have ⟨⟨_, _, _, htype', hlen', _⟩, _⟩ := hs
    exact ⟨hf.of_sameRx hs, hlen'.trans hlen, htype'.trans htype⟩
  late n hpre h9 hn h1 hm hlen := (h.late n hpre h9 hn h1 hm hlen).of_sameRx hs
  success n hpre h9 hn h1 hm hlen := (h.success n hpre h9 hn h1 hm hlen).of_sameRx hs

theorem Latched.of_sameRx (h : Latched bs n s) (hs : SameRx s t) : Latched bs n t := by
  obtain ⟨⟨-, -, hcs, htype, hlen, -, hck, -⟩, hcell⟩ := hs
  constructor <;> simp only [hcs, htype, hlen, hck, hcell]
  exacts [h.type, h.len, h.sum, h.ck, h.cells]

theorem Running.of_sameRx (h : Running c bs s) (hs : SameRx s t) : Running c bs t := by
  have ⟨⟨hst, hpos, _, _, _, hn, _⟩, _⟩ := hs
  exact ⟨hst.trans h.st, hpos ▸ h.pos, h.before, hn ▸ h.latched.of_sameRx hs⟩

theorem Reception.of_sameRx (h : Reception c bs s) (hs : SameRx s t) : Reception c bs t := by
  cases h with
  | running h => exact .running (h.of_sameRx hs)
  | mismatched h hf => exact .mismatched h (hf.of_sameRx hs)
  | badLength h hf hlen htype =>
    have ⟨⟨_, _, _, htype', hlen', _⟩, _⟩ := hs
    exact .badLength h (hf.of_sameRx hs) (hlen'.trans hlen) (htype'.trans htype)
  | complete h hlen hd => exact .complete h hlen (hd.of_sameRx hs)

/-! ### Runs -/

theorem runEvent_of_received {i : Instr} (h : Event.received e = some i) (s : State) : runEvent e s = exec i s := by
  cases e with
  | rx rs => cases h; rfl
  | _ => cases h

/-- The machine `t`, with parameters `c`, has received the bytes `bs` since it was armed. -/
structure Fed (c : Config) (bs : List Byte) (t : State) : Prop where
  inv       : MachineInv t
  cfg       : t.cfg = c
  reception : Reception c bs t

theorem Fed.pending (h : Fed c bs t) (rest : List Event) : Fed c bs { t with pending := rest } :=
  ⟨h.inv.pending rest, h.cfg, h.reception.of_sameRx ⟨.refl t, fun _ => rfl⟩⟩

theorem Fed.quiet (h : Fed c bs t) (hk : Event.keepsReception e = true) (hq : Event.received e = none) :
    ∃ u, runEvent e t = .next u ∧ Fed c bs u := by
  obtain ⟨u, hu⟩ := runEvent_answers e h.inv
  exact ⟨u, hu, (runEvent_effect hu).keeps_inv h.inv, (runEvent_keeps hu).1.trans h.cfg,
    h.reception.of_sameRx (sameRx_of_quiet hk hq hu)⟩

theorem Fed.byte {b : Byte} (h : Fed c bs t) (he : Event.received e = some (.rxb b)) :
    ∃ u, runEvent e t = .next u ∧ Fed c (bs ++ [b]) u := by
  obtain ⟨u, hu⟩ := runEvent_answers e h.inv
  have hexec : execRxb b t = .next u := (runEvent_of_received he t).symm.trans hu
  exact ⟨u, hu, (runEvent_effect hu).keeps_inv h.inv, (runEvent_keeps hu).1.trans h.cfg,
    h.reception.byte h.inv h.cfg hexec⟩

/-- A run in which the link delivers the bytes `more`. -/
theorem Fed.run {es rest : List Event} {more : List Byte} (h : Fed c bs t) (hp : t.pending = es ++ rest)
    (hk : ∀ e ∈ es, Event.keepsReception e = true) (hrx : es.filterMap Event.received = more.map .rxb) :
    ∃ u, runSteps es.length t = .next u ∧ u.pending = rest ∧ Fed c (bs ++ more) u := by
  induction es generalizing bs more t with
  | nil =>
    obtain rfl : more = [] := by simpa using hrx.symm
    exact ⟨t, rfl, hp, by simpa using h⟩
  | cons e es ih =>
    obtain ⟨now, later, u, rfl, hu, hfed, hlater⟩ : ∃ now later u, more = now ++ later ∧
        runEvent e { t with pending := es ++ rest } = .next u ∧ Fed c (bs ++ now) u ∧
        es.filterMap Event.received = later.map .rxb := by
      cases he : Event.received e with
      | none =>
        obtain ⟨u, hu, hfed⟩ := (h.pending (es ++ rest)).quiet (hk e (by simp)) he
        exact ⟨[], more, u, rfl, hu, by simpa using hfed, by rwa [List.filterMap_cons_none he] at hrx⟩
      | some i =>
        rw [List.filterMap_cons_some he] at hrx
        obtain ⟨b, later, rfl, rfl, hlater⟩ := List.map_eq_cons_iff.mp hrx.symm
        obtain ⟨u, hu, hfed⟩ := (h.pending (es ++ rest)).byte he
        exact ⟨[b], later, u, rfl, hu, hfed, hlater.symm⟩
    obtain ⟨v, hv, hpv, hend⟩ := ih hfed (runEvent_keeps hu).2 (fun e' he' => hk e' (by simp [he'])) hlater
    exact ⟨v, (runSteps_next _ ((step_pending hp).trans hu)).trans hv, hpv, List.append_assoc .. ▸ hend⟩

/-- Events without a received symbol leave the outcome. -/
theorem outcome_run_quiet {es rest : List Event} (hi : MachineInv t) (h : DecodeOutcome c bs t)
    (hp : t.pending = es ++ rest) (hk : ∀ e ∈ es, Event.keepsReception e = true)
    (hq : ∀ e ∈ es, Event.received e = none) :
    ∃ u, runSteps es.length t = .next u ∧ u.pending = rest ∧ DecodeOutcome c bs u := by
  induction es generalizing t with
  | nil => exact ⟨t, rfl, hp, h⟩
  | cons e es ih =>
    have hi' := hi.pending (es ++ rest)
    obtain ⟨u, hu⟩ := runEvent_answers e hi'
    have hsame : SameRx { t with pending := es ++ rest } u := sameRx_of_quiet (hk e (by simp)) (hq e (by simp)) hu
    obtain ⟨v, hv, hpv, hout⟩ := ih ((runEvent_effect hu).keeps_inv hi') (h.of_sameRx hsame) (runEvent_keeps hu).2
      (fun e' he' => hk e' (by simp [he'])) (fun e' he' => hq e' (by simp [he']))
    exact ⟨v, (runSteps_next _ ((step_pending hp).trans hu)).trans hv, hpv, hout⟩

theorem fed_of_decgo (hi : MachineInv s) (h : exec .decgo s = .next t) : Fed s.cfg [] t ∧ t.pending = s.pending := by
  cases (accept_eq 0 (armDecoder s)).symm.trans h
  exact ⟨⟨(HostEffect.decgo rfl).keeps_inv hi, rfl, .running (running_armed s)⟩, rfl⟩

/-- Where the received symbols are those of `xs` and one more, the event that brings it stands out. -/
theorem filterMap_received_concat {es : List Event} {xs : List Instr} {i : Instr}
    (h : es.filterMap Event.received = xs ++ [i]) : ∃ es₁ e es₂, es = es₁ ++ e :: es₂ ∧
      es₁.filterMap Event.received = xs ∧ Event.received e = some i ∧ ∀ e' ∈ es₂, Event.received e' = none := by
  obtain ⟨es₁, tail, rfl, rfl, htail⟩ := List.filterMap_eq_append_iff.mp h
  obtain ⟨mid, e, es₂, rfl, hmid, he, hlast⟩ := List.filterMap_eq_cons_iff.mp htail
  refine ⟨es₁ ++ mid, e, es₂, by simp, ?_, he, List.filterMap_eq_nil_iff.mp hlast⟩
  rw [List.filterMap_append, List.filterMap_eq_nil_iff.mpr hmid, List.append_nil]

/-- Settles O39: after the bytes the decoder runs on or its state is the outcome; `RXE` decides what is open, and the
events without a symbol leave the receive side. -/
theorem aWholeDecodeEndsByItsFirstCase : Obligations.AWholeDecodeEndsByItsFirstCase := by
  intro s s₀ es rest bs hi hgo hp hk hrx
  obtain ⟨hfed, hpending⟩ := fed_of_decgo hi hgo
  rcases hrx with hrx | ⟨hrx, hearly⟩
  case inl =>
    obtain ⟨es₁, e, es₂, rfl, hbytes, he, hq⟩ := filterMap_received_concat hrx
    have hp' : s₀.pending = es₁ ++ (e :: (es₂ ++ rest)) := by rw [hpending, hp]; simp
    obtain ⟨t, ht, hpt, hfed⟩ := hfed.run hp' (fun e' he' => hk e' (by simp [he'])) hbytes
    have hfed' := hfed.pending (es₂ ++ rest)
    obtain ⟨u, hu⟩ := runEvent_answers e hfed'.inv
    have hexec : execRxe _ = .next u := (runEvent_of_received he _).symm.trans hu
    obtain ⟨v, hv, hpv, hout⟩ := outcome_run_quiet ((runEvent_effect hu).keeps_inv hfed'.inv)
      (hfed'.reception.rxe hfed'.inv.rx hfed'.cfg hexec) (runEvent_keeps hu).2
      (fun e' he' => hk e' (by simp [he'])) hq
    refine ⟨v, ?_, hpv, hout⟩
    rw [List.length_append, List.length_cons, runSteps_add _ _ ht, runSteps_next _ ((step_pending hpt).trans hu), hv]
  case inr =>
    obtain ⟨t, ht, hpt, hfed⟩ := hfed.run (hpending.trans hp) hk hrx
    refine ⟨t, ht, hpt, ?_⟩
    rcases hfed.reception.running_or_outcome with hrun | ⟨-, hout⟩
    · exact absurd hearly (hrun.not_decidedEarly hfed.inv.rx hfed.cfg)
    · exact hout

end Sys2Proof.Machine
end

section
/-! PROOFS. 42_decoder.md: the decode of an emitted frame (R151). -/

namespace Sys2Proof.Machine

variable {s t : State}

/-! ### The frame as the decoder reads it -/

theorem frameOf_getD_of_getElem? {p : Nat} {b : Byte} (h : (frameOf s)[p]? = some b) : (frameOf s).getD p 0 = b := by
  rw [List.getD_eq_getElem?_getD, h, Option.getD_some]

theorem prefixMatches_frameOf (s : State) : PrefixMatches s.cfg (frameOf s) :=
  fun _ h6 _ => frameOf_getD_of_getElem? (frameOf_prefix (Nat.le_of_lt_succ h6))

theorem frameOf_getD_summed {p : Nat} {b : Byte} (h : (summedOf s)[p]? = some b) :
    (frameOf s).getD (6 + p) 0 = b := by
  have hp : p < (summedOf s).length := (List.getElem?_eq_some_iff.mp h).1
  rw [summedOf_length] at hp
  exact frameOf_getD_of_getElem? (by rw [frameOf_summed (by omega) (by omega), Nat.add_sub_cancel_left, h])

theorem frameOf_type (s : State) : (frameOf s).getD 6 0 = s.txtype :=
  frameOf_getD_summed (p := 0) (by simp [summedOf_eq])

theorem receivedLength_frameOf (s : State) : receivedLength (frameOf s) = lengthField s.txn := by
  have hhigh : (frameOf s).getD 7 0 = hi8 (lengthField s.txn) := frameOf_getD_summed (p := 1) (by simp [summedOf_eq])
  have hlow : (frameOf s).getD 8 0 = lo8 (lengthField s.txn) := frameOf_getD_summed (p := 2) (by simp [summedOf_eq])
  rw [receivedLength, hhigh, hlow, be16_hi8_lo8]

theorem frameOf_cell {j : Nat} (h : j < s.txn.toNat) : (frameOf s).getD (9 + j) 0 = txCell s j := by
  have hindex : 9 + j = 6 + (j + 3) := by omega
  exact hindex ▸ frameOf_getD_summed (summedOf_payload h)

theorem frameOf_checksum_be16 (s : State) :
    be16 ((frameOf s).getD (9 + s.txn.toNat) 0) ((frameOf s).getD (10 + s.txn.toNat) 0) = csum16 (summedOf s) := by
  have hhigh : (frameOf s).getD (9 + s.txn.toNat) 0 = hi8 (csum16 (summedOf s)) :=
    frameOf_getD_of_getElem? (frameOf_checksum s 0)
  have hlow : (frameOf s).getD (9 + s.txn.toNat + 1) 0 = lo8 (csum16 (summedOf s)) :=
    frameOf_getD_of_getElem? (frameOf_checksum s 1)
  have hnext : 10 + s.txn.toNat = 9 + s.txn.toNat + 1 := by omega
  rw [hnext, hhigh, hlow, be16_hi8_lo8]

/-- The bytes that the decoder sums are those that the encoder sums. -/
theorem frameOf_summed_part (s : State) : ((frameOf s).drop 6).take (3 + s.txn.toNat) = summedOf s := by
  rw [frameOf_eq, List.append_assoc, List.drop_left' (by simp), List.take_left' (summedOf_length s)]

/-- R137: the decoder takes the frame's length field, which is `n + 2` as a number, for a legal `n`. -/
theorem announces_frameOf (hi : MachineInv s) (h1 : 1 ≤ s.txn.toNat) (hm : s.txn.toNat ≤ s.cfg.maxp) :
    Announces s.cfg (frameOf s) s.txn.toNat where
  before := prefixMatches_frameOf s
  known := by rw [frameOf_length]; omega
  count := by
    have := (config_wf_iff _).mp hi.params
    rw [receivedLength_frameOf]
    exact BitVec.toNat_add_of_lt (show s.txn.toNat + 2 < 2 ^ 16 by omega)
  pos := h1
  le := hm

/-- Settles O40: the complete frame stands in `TXOUT` (R121), it is R150's case 5, and each field is read back from
where the frame carries it. -/
theorem decodeOfAnEmittedFrameRecoversIt : Obligations.DecodeOfAnEmittedFrameRecoversIt := by
  intro s s₀ s₁ v v₀ es rest fs rest' hi hb h1 hm hgo hp hreset hcount hrun hiv hcfg hdec hpv hk hrx
  obtain ⟨u, hu, -, -, hout, hcs, -⟩ := (anEncodedFrameIsEmittedWhole s s₀ es rest hi hb h1 hm hgo hreset).2 hp hcount
  obtain rfl : u = s₁ := Host.Outcome.next.inj (hu.symm.trans hrun)
  have hframe : u.txout.drop s.txout.length = frameOf s := by rw [hout, List.drop_left, frameOf]
  rw [hframe] at hrx
  obtain ⟨t, ht, -, hdecode⟩ := aWholeDecodeEndsByItsFirstCase v v₀ fs rest' (frameOf s) hiv hdec hpv hk (.inl hrx)
  have ha := hcfg ▸ announces_frameOf hi h1 hm
  have hd := hdecode.success _ ha.before ha.known ha.count ha.pos ha.le (by rw [frameOf_length]; omega)
  obtain ⟨hpres, hck, hok, -, htrail⟩ := hd.full (frameOf_length s).ge
  have hsum : t.rxcs = csum16 (summedOf s) := hd.sum.trans (congrArg csum16 (frameOf_summed_part s))
  have hck : t.rxck = t.rxcs := by rw [hck, frameOf_checksum_be16, hsum]
  refine ⟨t, ht, hd.st, hd.type.trans (frameOf_type s), BitVec.eq_of_toNat_eq hd.count,
    fun j hj => (hd.cells j hj).trans (frameOf_cell hj), hpres, hok.mpr hck.symm, ?trail, hck, hsum.trans hcs.symm⟩
  case trail => simpa using htrail

end Sys2Proof.Machine
end

section
/-! PROOFS. 43_control.md: NOP (R160), RDREG (R161), WRREG (R162) and CLRERR (R163). -/

namespace Sys2Proof.Machine

variable {s t : State}

/-- Settles O13: the row of the operation map, which the zero word is in, and the one next state of `NOP`. -/
theorem nopReturnsAndChangesNothing : Obligations.NopReturnsAndChangesNothing :=
  ⟨selects_of_decodeFields fun _ _ => rfl, rfl, fun s => accept_eq 0 s⟩

/-! ### RDREG -/

theorem execRdreg_of_readable {r : Byte} {v : Half} (h : readRegister r s = some v) :
    execRdreg r s = .next (afterAccept v s) := by
  simp [execRdreg, h]

theorem execRdreg_of_unreadable {r : Byte} (h : readRegister r s = none) :
    execRdreg r s = .next (afterRefusal .badreg s) := by
  simp [execRdreg, h]

/-- Settles O14: `readRegister` has a row for each number below `0x0C`, and no other. -/
theorem rdregReadsTheNumberedRegister : Obligations.RdregReadsTheNumberedRegister := by
  refine ⟨selects_of_decodeFields fun _ _ => rfl, fun s => ?_⟩
  have reads {r : Byte} {v : Half} (h : readRegister r s = some v) : exec (.rdreg r) s = .next (afterAccept v s) :=
    execRdreg_of_readable h
  exact ⟨reads rfl, reads rfl, reads rfl, reads rfl, reads rfl, reads rfl, reads rfl, reads rfl, reads rfl, reads rfl,
    reads rfl, reads rfl, fun r hr => execRdreg_of_unreadable ((readRegister_none_iff r s).mpr hr)⟩

/-! ### WRREG -/

theorem execWrreg_of_idle {r : Byte} {v : Half} (hb : s.txbusy = false) (h : writeRegister r v s = some t) :
    execWrreg r v s = .next (afterAccept 0 t) := by
  simp [execWrreg, h, hb]

theorem execWrreg_of_busy {r : Byte} {v : Half} (hb : s.txbusy = true) (h : writeRegister r v s = some t) :
    execWrreg r v s = .next (afterRefusal .txbusy s) := by
  simp [execWrreg, h, hb]

theorem execWrreg_of_unwritable {r : Byte} {v : Half} (h : writeRegister r v s = none) :
    execWrreg r v s = .next (afterRefusal .badreg s) := by
  simp [execWrreg, h]

theorem writeRegister_unwritable {r : Byte} (h1 : r ≠ 0x01) (h2 : r ≠ 0x02) (v : Half) (s : State) :
    writeRegister r v s = none := by
  rw [writeRegister_eq, if_neg h1, if_neg h2]

/-- Settles O15: `writeRegister` has the rows of `TXTYPE` and `TXN` and no other, and `TXBUSY` guards the two. -/
theorem wrregWritesTxtypeOrTxn : Obligations.WrregWritesTxtypeOrTxn := by
  refine ⟨selects_of_decodeFields fun _ _ => rfl, fun s v => ?_⟩
  have txtype : writeRegister 0x01 v s = some { s with txtype := lo8 v } := rfl
  have txn : writeRegister 0x02 v s = some { s with txn := v } := rfl
  exact ⟨fun hb => ⟨execWrreg_of_idle hb txtype, execWrreg_of_idle hb txn⟩,
    fun hb => ⟨execWrreg_of_busy hb txtype, execWrreg_of_busy hb txn⟩,
    fun r h1 h2 => execWrreg_of_unwritable (writeRegister_unwritable h1 h2 v s)⟩

/-- Settles O16: the row of the operation map, and the one next state of `CLRERR`. -/
theorem clrerrClearsTheRefusalRecord : Obligations.ClrerrClearsTheRefusalRecord :=
  ⟨selects_of_decodeFields fun _ _ => rfl, fun s => accept_eq 0 (clearRefusal s)⟩

end Sys2Proof.Machine
end

section
/-! PROOFS. 60_exceptions.md: the cause of a decode failure (R172 to R175) and of a refusal (R177 to R182). -/

namespace Sys2Proof.Machine

variable {s t : State} {e : Event} {i : Instr}

/-! ### Decode failures -/

/-- Every state that a decode failure in `RUN` can leave, by its cause (R173 to R175). -/
inductive DecodeFailure (s : State) : State → Prop where
  | header (hp : s.rxpos.toNat ≤ 1) : DecodeFailure s (rxfail .hdr s)
  | address (h2 : 2 ≤ s.rxpos.toNat) (h5 : s.rxpos.toNat ≤ 5) : DecodeFailure s (rxfail .addr s)
  | length (b : Byte) (len : Half) (hp : s.rxpos.toNat = 8) (hl : len.toNat < 3 ∨ s.cfg.maxp + 2 < len.toNat) :
      DecodeFailure s (rxfail .len { rxSummed b s with rxlen := len })
  | short (hp : s.rxpos.toNat < 9 + s.rxn.toNat) : DecodeFailure s (rxfail .short s)

/-- Each transition to `ERR` starts in `RUN`, and its symbol leaves the state of its cause. -/
theorem Transition.decodeFailure (h : Transition s e .err) (hrun : runEvent e s = .next t) :
    s.rxst = .run ∧ DecodeFailure s t := by
  have received {i : Instr} {u : State} (he : Event.received e = some i) (hu : exec i s = .next u) : u = t :=
    Host.Outcome.next.inj (hu.symm.trans ((runEvent_of_received he s).symm.trans hrun))
  cases h with
  | @mismatch b hr he hp hb =>
    have compared {code : RxError} (hx : execRxb b s = .next (rxPrefix code b s)) : rxfail code s = t :=
      received he (hx.trans ((next_rxPrefix code b s).trans (if_neg hb)))
    by_cases h1 : s.rxpos.toNat ≤ 1
    · exact ⟨hr, compared (rxb_header hr h1) ▸ .header h1⟩
    · have h2 : 2 ≤ s.rxpos.toNat := Nat.not_le.mp h1
      exact ⟨hr, compared (rxb_address hr h2 hp) ▸ .address h2 hp⟩
  | badLength hr he hp hl =>
    have hfail := received he (rxb_lengthLow hr hp)
    rw [rxLengthLow_of_illegal (by omega)] at hfail
    exact ⟨hr, hfail ▸ .length _ _ hp hl⟩
  | short hr he hp => exact ⟨hr, received he (rxe_short hr (Nat.not_le.mpr hp)) ▸ .short hp⟩

/-- R156: `ERR` is entered by a receive symbol only. -/
theorem Transition.symbol_of_err (h : Transition s e .err) : ∃ rs, e = .rx rs := by
  have received {i : Instr} (he : Event.received e = some i) : ∃ rs, e = .rx rs := by
    cases e with
    | rx rs => exact ⟨rs, rfl⟩
    | _ => cases he
  cases h with
  | mismatch _ he | badLength _ he | short _ he => exact received he

/-- R172: a decode failure writes neither `RXBUF` nor the flags of a complete frame. -/
theorem DecodeFailure.leaves (h : DecodeFailure s t) :
    (∀ j, rxCell t j = rxCell s j) ∧ t.trail = s.trail ∧ t.ckpres = s.ckpres ∧ t.csok = s.csok := by
  cases h <;> exact ⟨fun _ => rfl, rfl, rfl, rfl⟩

/-- R174: the byte that fails the length test is accepted, and `RXN` is not yet latched. -/
theorem rxpos_rxn_of_badLength (hi : RxInv s) (hr : s.rxst = .run) (hp : s.rxpos.toNat = 8) :
    (s.rxpos + 1).toNat = 9 ∧ s.rxn = 0 :=
  ⟨by rw [half_succ_toNat (by omega), hp], hi.runEarly hr (by omega)⟩

/-- Settles O45: a failure is a transition to `ERR`, which a receive symbol makes from `RUN` in one of four ways. -/
theorem aDecodeFailureRecordsItsCause : Obligations.ADecodeFailureRecordsItsCause := by
  intro s t e hi hs hrun ht
  have htransition : Transition s e .err :=
    ht ▸ (runEvent_effect hrun).transition.resolve_left fun hsame => hs (hsame ▸ ht)
  obtain ⟨rs, rfl⟩ := htransition.symbol_of_err
  obtain ⟨hr, hfail⟩ := htransition.decodeFailure hrun
  obtain ⟨htx, hhost⟩ := rxEvent_leaves hrun
  obtain ⟨hcells, htrail, hckpres, hcsok⟩ := hfail.leaves
  refine ⟨hr, ⟨rs, rfl⟩, htx, hhost, hcells, htrail, hckpres, hcsok, ?_⟩
  cases hfail with
  | header hp => exact .inl ⟨rfl, rfl, hp⟩
  | address h2 h5 => exact .inr (.inl ⟨rfl, rfl, h2, h5⟩)
  | length b len hp hl =>
    obtain ⟨hpos, hn⟩ := rxpos_rxn_of_badLength hi.rx hr hp
    exact .inr (.inr (.inl ⟨rfl, hpos, hn, hl⟩))
  | short hp => exact .inr (.inr (.inr ⟨rfl, rfl, hp⟩))

/-! ### Refusals -/

/-- The cause for which a host operation is refused in state `s`, in the order of R182; `.none` where it is accepted. -/
def refusalCause (s : State) : Instr → OpError
  | .rdreg r => if 0x0C ≤ r.toNat then .badreg else .none
  | .wrreg r _ => if r ≠ 0x01 ∧ r ≠ 0x02 then .badreg else if s.txbusy then .txbusy else .none
  | .txwr i _ => if s.txbusy then .txbusy else if s.cfg.maxp ≤ i.toNat then .index else .none
  | .rxrd i => if s.cfg.maxp ≤ i.toNat then .index else .none
  | .rxrdw i => if s.cfg.maxp ≤ i.toNat + 1 then .index else .none
  | .encgo => if s.txbusy then .txbusy else if s.txn = 0 ∨ s.cfg.maxp < s.txn.toNat then .txrange else .none
  | .nop => .none
  | .decgo => .none
  | .csclr => .none
  | .csadd _ => .none
  | .cscmp _ => .none
  | .clrerr => .none
  | .rxb _ => .none
  | .rxe => .none

/-- The refusal record of `t` is that of the cause `c`; it is empty for `.none`. -/
structure Records (c : OpError) (t : State) : Prop where
  cause : t.operrc = c
  flag  : t.operr = true ↔ t.operrc ≠ .none

theorem records_none (hop : t.operr = false) (hc : t.operrc = .none) : Records .none t :=
  ⟨hc, by simp [hop, hc]⟩

theorem records_afterRefusal {c : OpError} (hop : s.operr = false) (hc : c ≠ .none) : Records c (afterRefusal c s) :=
  ⟨by simp [hop], by simp [hop, hc]⟩

/-- The operation answers a next state whose record is that of its cause. -/
def RecordsItsCause (s : State) (i : Instr) : Prop := ∃ t, exec i s = .next t ∧ Records (refusalCause s i) t

theorem recordsItsCause_of_refused {c : OpError} (hop : s.operr = false) (hx : exec i s = .next (afterRefusal c s))
    (hc : c ≠ .none) (hcause : refusalCause s i = c) : RecordsItsCause s i :=
  ⟨_, hx, by rw [hcause]; exact records_afterRefusal hop hc⟩

theorem recordsItsCause_of_accepted {v : Half} (hx : exec i s = .next (afterAccept v t))
    (hcause : refusalCause s i = .none) (hop : t.operr = false) (hnone : t.operrc = .none) : RecordsItsCause s i :=
  ⟨_, hx, by rw [hcause]; exact records_none hop hnone⟩

section

variable (hop : s.operr = false) (hnone : s.operrc = .none)
include hop hnone

theorem rdreg_recordsItsCause (r : Byte) : RecordsItsCause s (.rdreg r) := by
  by_cases hr : 0x0C ≤ r.toNat
  · have hx := execRdreg_of_unreadable ((readRegister_none_iff r s).mpr hr)
    exact recordsItsCause_of_refused hop hx (by decide) (if_pos hr)
  · obtain ⟨v, hv⟩ := Option.ne_none_iff_exists'.mp (mt (readRegister_none_iff r s).mp hr)
    exact recordsItsCause_of_accepted (execRdreg_of_readable hv) (if_neg hr) hop hnone

/-- `BADREG` is checked before `TXBUSY` (R182). -/
theorem wrreg_recordsItsCause (r : Byte) (v : Half) : RecordsItsCause s (.wrreg r v) := by
  by_cases hr : r ≠ 0x01 ∧ r ≠ 0x02
  · have hx := execWrreg_of_unwritable (writeRegister_unwritable hr.1 hr.2 v s)
    exact recordsItsCause_of_refused hop hx (by decide) (if_pos hr)
  · obtain ⟨u, hw, hop', hnone'⟩ : ∃ u, writeRegister r v s = some u ∧ u.operr = false ∧ u.operrc = .none := by
      obtain rfl | rfl : r = 0x01 ∨ r = 0x02 := by tauto
      all_goals exact ⟨_, rfl, hop, hnone⟩
    cases hb : s.txbusy with
    | true =>
      exact recordsItsCause_of_refused hop (execWrreg_of_busy hb hw) (by decide) ((if_neg hr).trans (if_pos hb))
    | false =>
      have hx := execWrreg_of_idle hb hw
      exact recordsItsCause_of_accepted hx ((if_neg hr).trans (if_neg (by simp [hb]))) hop' hnone'

/-- `TXBUSY` is checked before `INDEX` (R182). -/
theorem txwr_recordsItsCause (k : Half) (b : Byte) : RecordsItsCause s (.txwr k b) := by
  cases hb : s.txbusy with
  | true => exact recordsItsCause_of_refused hop (execTxwr_of_busy k b hb) (by decide) (if_pos hb)
  | false =>
    have idle : ¬ s.txbusy = true := by simp [hb]
    rcases Nat.lt_or_ge k.toNat s.cfg.maxp with hk | hk
    · have hx := execTxwr_of_lt b hb hk
      exact recordsItsCause_of_accepted hx ((if_neg idle).trans (if_neg (Nat.not_le.mpr hk))) hop hnone
    · exact recordsItsCause_of_refused hop (execTxwr_of_ge b hb hk) (by decide) ((if_neg idle).trans (if_pos hk))

theorem rxrd_recordsItsCause (k : Half) : RecordsItsCause s (.rxrd k) := by
  obtain ⟨-, -, hreads⟩ := bufferReadsReturnTheirCells
  obtain ⟨byte, noByte, -, -⟩ := hreads s k
  rcases Nat.lt_or_ge k.toNat s.cfg.maxp with hk | hk
  · obtain ⟨v, -, hx⟩ := byte hk
    exact recordsItsCause_of_accepted hx (if_neg (Nat.not_le.mpr hk)) hop hnone
  · exact recordsItsCause_of_refused hop (noByte hk) (by decide) (if_pos hk)

theorem rxrdw_recordsItsCause (k : Half) : RecordsItsCause s (.rxrdw k) := by
  obtain ⟨-, -, hreads⟩ := bufferReadsReturnTheirCells
  obtain ⟨-, -, word, noWord⟩ := hreads s k
  rcases Nat.lt_or_ge (k.toNat + 1) s.cfg.maxp with hk | hk
  · obtain ⟨v, -, hx⟩ := word hk
    exact recordsItsCause_of_accepted hx (if_neg (Nat.not_le.mpr hk)) hop hnone
  · exact recordsItsCause_of_refused hop (noWord hk) (by decide) (if_pos hk)

/-- `TXBUSY` is checked before `TXRANGE` (R182). -/
theorem encgo_recordsItsCause : RecordsItsCause s .encgo := by
  cases hb : s.txbusy with
  | true => exact recordsItsCause_of_refused hop (execEncgo_of_busy hb) (by decide) (if_pos hb)
  | false =>
    have idle : ¬ s.txbusy = true := by simp [hb]
    by_cases hn : s.txn = 0 ∨ s.cfg.maxp < s.txn.toNat
    · exact recordsItsCause_of_refused hop (execEncgo_of_illegal hb hn) (by decide) ((if_neg idle).trans (if_pos hn))
    · have hzero : s.txn.toNat ≠ 0 := fun h => hn (.inl (BitVec.eq_of_toNat_eq h))
      have hx := execEncgo_of_legal hb (by omega) (by omega)
      exact recordsItsCause_of_accepted hx ((if_neg idle).trans (if_neg hn)) hop hnone

/-- From an empty record, every host operation records its cause, and the operations that are never refused none. -/
theorem hostOp_recordsItsCause (hi : hostOp i = true) : RecordsItsCause s i := by
  cases i with
  | rdreg r => exact rdreg_recordsItsCause hop hnone r
  | wrreg r v => exact wrreg_recordsItsCause hop hnone r v
  | txwr k b => exact txwr_recordsItsCause hop hnone k b
  | rxrd k => exact rxrd_recordsItsCause hop hnone k
  | rxrdw k => exact rxrdw_recordsItsCause hop hnone k
  | encgo => exact encgo_recordsItsCause hop hnone
  | nop | decgo | csclr | csadd | cscmp => exact recordsItsCause_of_accepted (accept_eq ..) rfl hop hnone
  | clrerr => exact recordsItsCause_of_accepted (accept_eq ..) rfl rfl rfl
  | rxb | rxe => cases hi

end

/-! ### The condition of each cause

Each is read off the rows of `refusalCause`, one for each instruction. -/

theorem refusalCause_ne_illop (s : State) (i : Instr) : refusalCause s i ≠ .illop := by
  cases i <;> grind [refusalCause]

theorem refusalCause_badreg_iff : refusalCause s i = .badreg ↔
    (∃ r, i = .rdreg r ∧ 0x0C ≤ r.toNat) ∨ (∃ r v, i = .wrreg r v ∧ r ≠ 0x01 ∧ r ≠ 0x02) := by
  cases i <;> grind [refusalCause]

theorem refusalCause_txbusy_iff : refusalCause s i = .txbusy ↔ s.txbusy = true ∧
    ((∃ r v, i = .wrreg r v ∧ (r = 0x01 ∨ r = 0x02)) ∨ (∃ k b, i = .txwr k b) ∨ i = .encgo) := by
  cases i <;> grind [refusalCause]

theorem refusalCause_index_iff : refusalCause s i = .index ↔
    (s.txbusy = false ∧ ∃ k b, i = .txwr k b ∧ s.cfg.maxp ≤ k.toNat) ∨
      (∃ k, i = .rxrd k ∧ s.cfg.maxp ≤ k.toNat) ∨ (∃ k, i = .rxrdw k ∧ s.cfg.maxp ≤ k.toNat + 1) := by
  cases i <;> grind [refusalCause]

theorem refusalCause_txrange_iff : refusalCause s i = .txrange ↔
    s.txbusy = false ∧ i = .encgo ∧ (s.txn = 0 ∨ s.cfg.maxp < s.txn.toNat) := by
  cases i <;> grind [refusalCause]

/-- Settles O18: a reserved code is `ILLOP`, and every other word records the cause of the operation it decodes to. -/
theorem eachRefusalCauseHasItsCondition : Obligations.EachRefusalCauseHasItsCondition := by
  intro cw s t hop hnone hrun
  have hreserved : (∃ e, decodeCommand cw = .error e) ↔ 0x0C ≤ (BitVec.extractLsb' 24 8 cw).toNat :=
    decodeCommand_error_iff cw
  rw [← hreserved]
  cases hd : decodeCommand cw with
  | error e =>
    obtain rfl := Host.Outcome.next.inj ((hostEvent_of_error hd s).symm.trans hrun)
    simp [hop]
  | ok i =>
    obtain ⟨u, hu, hcause, hflag⟩ := hostOp_recordsItsCause hop hnone (decodeCommand_hostOp hd)
    obtain rfl := Host.Outcome.next.inj (hu.symm.trans ((hostEvent_of_decode hd s).symm.trans hrun))
    simp only [hcause, Except.ok.injEq] at hflag ⊢
    exact ⟨by simp [refusalCause_ne_illop], refusalCause_badreg_iff, refusalCause_txbusy_iff, refusalCause_index_iff,
      refusalCause_txrange_iff, hflag⟩

end Sys2Proof.Machine
end

section
/-! PROOFS. 70_reset_and_hazards.md: RESET (R200, R50), and a started frame with nothing else to happen (R221, R122). -/

namespace Sys2Proof.Machine

variable {s t : State}

/-! ### RESET (R200) -/

@[simp] theorem resetRegisters_statusWord (s : State) : statusWord (resetRegisters s) = 0 :=
  calc
    statusWord (resetRegisters s) = statusWord State.reset := rfl
    _ = 0 := by decide

@[simp] theorem scrambleBuffers_statusWord (s : State) : statusWord (scrambleBuffers s) = statusWord s := rfl

@[simp] theorem scrambleBuffers_txCell (s : State) (i : Nat) :
    txCell (scrambleBuffers s) i = Config.powerOnTx (s.powerOns + 1) i :=
  txCell_unlisted _ i rfl

@[simp] theorem scrambleBuffers_rxCell (s : State) (i : Nat) :
    rxCell (scrambleBuffers s) i = Config.powerOnRx (s.powerOns + 1) i :=
  rxCell_unlisted _ i rfl

/-- The first state is the state after a `RESET`: it holds every value that a `RESET` writes. -/
@[simp] theorem runEvent_reset_of_reset : runEvent (.reset false) State.reset = .next State.reset := rfl

/-- Settles O7: a `RESET` is `resetRegisters`, and a power-on then forgets every listed cell. -/
theorem resetWritesEveryRegisterAndNoBuffer : Obligations.ResetWritesEveryRegisterAndNoBuffer := by
  intro s powerOn
  cases powerOn with
  | false => exact ⟨resetRegisters s, rfl, by simp⟩
  | true => exact ⟨scrambleBuffers (resetRegisters s), rfl, by simp⟩

/-! ### The encoder's turns with nothing pending (R221, log entry 5) -/

/-- `t` is reached from `s`, in the middle of a frame, by `k` turns of the encoder and no other event. -/
structure EncoderRan (s : State) (k : Nat) (t : State) : Prop where
  inv    : MachineInv t
  frame  : t = withEncoderOf t s
  txpos  : t.txpos.toNat = s.txpos.toNat + k
  length : t.txout.length = s.txout.length + k
  grows  : s.txout <+: t.txout
  busy   : t.txbusy = true ↔ s.txpos.toNat + k < 11 + s.txn.toNat

theorem encoderRan_zero (hi : MachineInv s) (hb : s.txbusy = true) : EncoderRan s 0 s where
  inv := hi
  frame := rfl
  txpos := rfl
  length := rfl
  grows := List.prefix_rfl
  busy := by
    obtain ⟨-, -, hp⟩ := hi.tx.busy hb
    simp only [hb, true_iff]
    omega

/-- While `TXBUSY = 1` one more step is one more `EMIT`. -/
theorem EncoderRan.step {k : Nat} (h : EncoderRan s k t) (hp : s.pending = []) (hb : t.txbusy = true) :
    ∃ u, step t = .next u ∧ EncoderRan s (k + 1) u := by
  obtain ⟨u, hu, hbusy⟩ := emit_answers h.inv.tx hb
  obtain ⟨o, hout⟩ := emit_appends hu
  have hturn : encoderTurn t = .next u := (encoderTurn_of_busy hb).trans hu
  have hpending : t.pending = [] := by rw [h.frame]; exact hp
  have hn : t.txn = s.txn := by rw [h.frame]; rfl
  refine ⟨u, (step_idle hpending).trans hturn, ?ran⟩
  exact {
    inv := encoderTurn_keeps_inv h.inv hturn
    frame := calc
      u = withEncoderOf u t := eq_withEncoderOf hturn
      _ = withEncoderOf u (withEncoderOf t s) := congrArg _ h.frame
    txpos := by rw [emit_txpos hu, h.inv.tx.txpos_succ h.inv.params hb, h.txpos, Nat.add_assoc]
    length := by rw [hout, List.length_append, h.length, List.length_singleton, Nat.add_assoc]
    grows := hout ▸ h.grows.trans (List.prefix_append _ _)
    busy := by
      rw [hbusy, h.txpos, hn]
      omega }

/-- With nothing pending the encoder's turns follow one another until the frame is complete. -/
theorem encoderRan_runSteps {k : Nat} (hi : MachineInv s) (hb : s.txbusy = true) (hp : s.pending = [])
    (hk : s.txpos.toNat + k ≤ 11 + s.txn.toNat) : ∃ t, runSteps k s = .next t ∧ EncoderRan s k t := by
  induction k with
  | zero => exact ⟨s, rfl, encoderRan_zero hi hb⟩
  | succ k ih =>
    obtain ⟨t, ht, hran⟩ := ih (by omega)
    obtain ⟨u, hu, hnext⟩ := hran.step hp (hran.busy.mpr (by omega))
    exact ⟨u, by rw [runSteps_add _ _ ht, runSteps_next _ hu, runSteps_zero], hnext⟩

/-- The encoder's turns leave the receive side and the host's side as they are (R70). -/
theorem EncoderRan.leaves {k : Nat} (h : EncoderRan s k t) : SameRx s t ∧ SameHostSide s t := by
  rw [h.frame]
  exact ⟨⟨.refl s, fun _ => rfl⟩, rfl, rfl, rfl, rfl, rfl⟩

/-- Settles O26: the turn that brings `TXPOS` to `11 + TXN` is the one that clears `TXBUSY` (R122). -/
theorem aStartedFrameCompletes : Obligations.AStartedFrameCompletes := by
  intro s hi hb hp
  obtain ⟨-, -, hpos⟩ := hi.tx.busy hb
  have hall : s.txpos.toNat + (11 + s.txn.toNat - s.txpos.toNat) = 11 + s.txn.toNat := by omega
  obtain ⟨t, ht, hran⟩ := encoderRan_runSteps hi hb hp hall.le
  obtain ⟨hrx, hhost⟩ := hran.leaves
  have hdone : t.txbusy = false := by simpa [hall] using hran.busy
  exact ⟨t, ht, hdone, hran.txpos.trans hall, hran.length, hran.grows, hrx, hhost⟩

end Sys2Proof.Machine
end
